-- ==== Sys2Proof/Word.lean ====
section
/-! DEFINITION. The byte and the byte sequence every layer of the Codec is written over (R10). -/

namespace Sys2Proof

/-- A byte is 8 bits; bit 0 is the least significant (R10). -/
abbrev Byte := BitVec 8

/-- A byte sequence, byte 0 first on the wire (R10): a command frame (R60) or a response frame (R66). -/
abbrev Frame := List Byte

end Sys2Proof
end

