-- ==== Sys2Proof/Syntax.lean ====
section
/-! DEFINITION. The command set, version 1 (R2): one constructor per row of the opcode table, with the operands of its
format (R61 to R65). -/

namespace Sys2Proof

/-- An IPv4 address: 4 bytes, first dotted component first (R42, R61). Never one number (R72). -/
structure Ipv4Addr where
  b0 : Byte
  b1 : Byte
  b2 : Byte
  b3 : Byte
  deriving DecidableEq, Repr

/-- The five commands of R60. -/
inductive Instr where
  /-- BUILD_IP_A, format F_IPA (R61). -/
  | buildIpA (srcAddr dstAddr : Ipv4Addr)
  /-- BUILD_IP_S, format F_IPS (R62): each text field is 15 bytes, of which the first `len` are the text. -/
  | buildIpS (srcLen : Byte) (srcText : List Byte) (dstLen : Byte) (dstText : List Byte)
  /-- BUILD_UDP, format F_UDP (R63): three 32-bit unsigned operands. -/
  | buildUdp (srcPort dstPort payloadLength : BitVec 32)
  /-- PARSE_REQ, format F_PRQ (R64): the received length and the first 48 bytes. -/
  | parseReq (rxLen : BitVec 16) (data : List Byte)
  /-- BUILD_RESP, format F_BRS (R65): the 48-byte request image and the time operand. -/
  | buildResp (req : List Byte) (now : BitVec 64)
  deriving DecidableEq, Repr

end Sys2Proof
end

