-- ==== Sys2Proof/Machine/Bytes.lean ====
section
/-! DEFINITION. Byte order and the frame primitives: big-endian encoding and reading (R11), MemRead and MemWrite (R12).
Decode and every meaning are written over these; byte order is decided here and nowhere else (R40, R41). -/

namespace Sys2Proof

/-- `be16(v) = [v[15:8], v[7:0]]` (R11). -/
def be16 (v : BitVec 16) : List Byte := [v.extractLsb' 8 8, v.extractLsb' 0 8]

/-- `be32(v) = [v[31:24], v[23:16], v[15:8], v[7:0]]` (R11). -/
def be32 (v : BitVec 32) : List Byte :=
  [v.extractLsb' 24 8, v.extractLsb' 16 8, v.extractLsb' 8 8, v.extractLsb' 0 8]

/-- `be64(v) = be32(v[63:32]) ++ be32(v[31:0])` (R11). -/
def be64 (v : BitVec 64) : List Byte := be32 (v.extractLsb' 32 32) ++ be32 (v.extractLsb' 0 32)

/-- `u(b)`: the bytes as one unsigned big-endian number, the first most significant (R11). -/
def u (b : List Byte) : Nat := b.foldl (fun acc x => acc * 256 + x.toNat) 0

/-- `c[start .. start+n-1]`, `n` bytes from a constant offset (R10, R30). -/
def slice (c : List Byte) (start n : Nat) : List Byte := (c.drop start).take n

/-- `c[i]`. Read only inside a frame whose length decoding has checked (R70). -/
def byteAt (c : List Byte) (i : Nat) : Byte := c.getD i 0

/-- The 4 address bytes at an offset, in order (R42, R61). -/
def addrAt (c : List Byte) (i : Nat) : Ipv4Addr :=
  ⟨byteAt c i, byteAt c (i + 1), byteAt c (i + 2), byteAt c (i + 3)⟩

/-- The address's byte image, first component at the lowest offset (R42). -/
def Ipv4Addr.bytes (a : Ipv4Addr) : List Byte := [a.b0, a.b1, a.b2, a.b3]

/-- `MemRead(addr, n)`: an n-byte big-endian read of the command frame (R12). -/
def memRead (c : Frame) (addr n : Nat) : Nat := u (slice c addr n)

/-- `MemWrite(addr, n, v)` with `v` already encoded in its n bytes, and `Q[i..j] <- bytes` (R12): the result bytes from
`addr` on become `bs`. -/
def memWrite (addr : Nat) (bs : List Byte) (q : List Byte) : List Byte :=
  q.take addr ++ bs ++ q.drop (addr + bs.length)

end Sys2Proof
end

