-- ==== Sys2Proof/Machine/AddressText.lean ====
section
/-! DEFINITION. Dotted-quad address texts: the strict parser of R110, and the one text it accepts for each address. -/

namespace Sys2Proof.Machine

/-- ASCII '.' (R110). -/
def dot : Byte := 0x2E

/-- ASCII '0'..'9' only (R110). -/
def isDigit (b : Byte) : Bool := 0x30 ≤ b.toNat && b.toNat ≤ 0x39

/-- Split at every '.', keeping empty parts (R110). -/
def splitAtDots : List Byte → List (List Byte)
  | [] => [[]]
  | b :: rest =>
    if b = dot then [] :: splitAtDots rest
    else match splitAtDots rest with
      | [] => [[b]]
      | p :: ps => (b :: p) :: ps

/-- Decimal value of a part made of digits (R110). -/
def decimalValue (p : List Byte) : Nat := p.foldl (fun acc b => acc * 10 + (b.toNat - 0x30)) 0

/-- One part: 1 to 3 digits, no leading zero, at most 255 (R110). -/
def parsePart (p : List Byte) : Option Byte :=
  if p.length < 1 ∨ p.length > 3 then none
  else if p.any (fun b => !isDigit b) then none
  else if p.length > 1 ∧ p.head? = some 0x30 then none
  else if decimalValue p > 255 then none
  else some (BitVec.ofNat 8 (decimalValue p))

/-- `ParseIPv4(t)`: exactly four parts, each one a component, the first component first (R110). -/
def parseIpv4 (t : List Byte) : Option Ipv4Addr :=
  match splitAtDots t with
  | [p0, p1, p2, p3] =>
    match parsePart p0, parsePart p1, parsePart p2, parsePart p3 with
    | some v0, some v1, some v2, some v3 => some ⟨v0, v1, v2, v3⟩
    | _, _, _, _ => none
  | _ => none

/-- The ASCII digit of a number below 10. -/
def digitByte (n : Nat) : Byte := BitVec.ofNat 8 (0x30 + n)

/-- A component in decimal, without leading zeros (R110). -/
def decimalText (b : Byte) : List Byte :=
  let v := b.toNat
  if v < 10 then [digitByte v]
  else if v < 100 then [digitByte (v / 10), digitByte (v % 10)]
  else [digitByte (v / 100), digitByte (v / 10 % 10), digitByte (v % 10)]

/-- The dotted-quad text of an address (R14, R110). -/
def dottedQuad (a : Ipv4Addr) : List Byte :=
  decimalText a.b0 ++ dot :: (decimalText a.b1 ++ dot :: (decimalText a.b2 ++ dot :: decimalText a.b3))

end Sys2Proof.Machine
end

