-- ==== Sys2Proof/Config.lean ====
section
/-! DEFINITION. The three configuration values (R7, R22). A configuration the spec does not admit (R232) has no term here:
a `REFID` code has 7 bits, and a tick rate carries the proof that it is at least 1,000,000 (log 5). -/

namespace Sys2Proof

/-- The least admitted `TICK_HZ` (R7: "any value ≥ 1,000,000 allowed"). -/
abbrev minTickHz : Nat := 1000000

/-- `REFID`: four ASCII codes, 0x00 to 0x7F each (R7). -/
structure AsciiTag where
  c0 : BitVec 7
  c1 : BitVec 7
  c2 : BitVec 7
  c3 : BitVec 7
  deriving DecidableEq, Repr, Inhabited

/-- `TICK_HZ`: ticks per second, an admitted value (R7, R151). -/
structure TickRate where
  hz : Nat
  admitted : minTickHz ≤ hz
  deriving DecidableEq, Repr

/-- The configuration the block is instantiated with (R22). -/
structure Config where
  ipId : BitVec 16
  refId : AsciiTag
  tickHz : TickRate
  deriving DecidableEq, Repr

/-- The spec's default `TICK_HZ`, one microsecond a tick (R7, R151). -/
def TickRate.default : TickRate := ⟨1000000, Nat.le_refl _⟩

/-- The `IP_ID` of the block that `State.reset` stands for: OPEN in every source (R7, D19), so uninterpreted (log 1). -/
opaque Config.openIpId : BitVec 16

/-- The `REFID` of the block that `State.reset` stands for: OPEN in every source (R7, D20), so uninterpreted (log 2). -/
opaque Config.openRefId : AsciiTag

/-- The configuration of `State.reset`: the OPEN values uninterpreted, `TICK_HZ` at its default (log 1, log 2, log 3). -/
def Config.instantiated : Config := ⟨Config.openIpId, Config.openRefId, TickRate.default⟩

end Sys2Proof
end

