-- ==== Sys2Proof/Machine/Configuration.lean ====
section
/-! DEFINITION. Instantiating the block (R232) and the byte image of `REFID`. -/

namespace Sys2Proof

/-- The four reference-identifier bytes, each below 0x80 (R7, R160). -/
def AsciiTag.bytes (t : AsciiTag) : List Byte :=
  [t.c0.setWidth 8, t.c1.setWidth 8, t.c2.setWidth 8, t.c3.setWidth 8]

/-- A byte of an admitted `REFID` is below 0x80 (R7, R232). -/
def isAscii (b : Byte) : Bool := b.toNat < 0x80

/-- Instantiate the block with the three values of R232. A configuration the spec does not admit is refused: there is no
`Config` for it. -/
def Config.instantiate (ipId : BitVec 16) (r0 r1 r2 r3 : Byte) (hz : Nat) : Option Config :=
  if h : minTickHz ≤ hz then
    if isAscii r0 && isAscii r1 && isAscii r2 && isAscii r3 then
      some ⟨ipId, ⟨r0.setWidth 7, r1.setWidth 7, r2.setWidth 7, r3.setWidth 7⟩, ⟨hz, h⟩⟩
    else none
  else none

end Sys2Proof
end

