-- ==== Sys2Proof/Machine/Constants.lean ====
section
/-! DEFINITION. The constants wired into the commands' results (R8, R9). They are not registers and not parameters (R22). -/

namespace Sys2Proof.Machine

/-- IPv4 byte 0: version 4 in bits [7:4], IHL 5 in bits [3:0] (R8, R101). -/
def ipVersionIhl : Byte := 0x45
/-- IPv4 type of service (R8). -/
def ipTos : Byte := 0x00
/-- IPv4 total length, left for the lower layer (R8, R236). -/
def ipTotalLength : BitVec 16 := 0x0000
/-- IPv4 flags and fragment offset (R8). -/
def ipFlagsFragment : BitVec 16 := 0x0000
/-- IPv4 time to live, 255 (R8). -/
def ipTtl : Byte := 0xFF
/-- IPv4 protocol, UDP = 17 (R8). -/
def ipProtocol : Byte := 0x11
/-- IPv4 header checksum, left for the lower layer (R8, R236). -/
def ipChecksum : BitVec 16 := 0x0000

/-- UDP checksum, 0 = unused (R8, R120). -/
def udpChecksum : BitVec 16 := 0x0000
/-- The UDP header's own 8 bytes, counted in its length field (R8). -/
def udpHeaderLength : Nat := 8
/-- The largest payload length accepted (R122). -/
def maxPayloadLength : Nat := 65527
/-- The largest port (R121). -/
def maxPort : Nat := 0xFFFF

/-- NTP response flag byte: LI 0, VN 4, Mode 4 (R8, C1). -/
def ntpFlagByte : Byte := 0x24
/-- NTP response stratum (R8). -/
def ntpStratum : Byte := 0x01
/-- NTP response poll interval (R8). -/
def ntpPoll : Byte := 0x03
/-- NTP response precision (R8). -/
def ntpPrecision : Byte := 0xE9
/-- NTP response root delay (R8). -/
def ntpRootDelay : BitVec 32 := 0
/-- NTP response root dispersion (R8). -/
def ntpRootDispersion : BitVec 32 := 0
/-- The least received length of a well-formed request (R144). -/
def minRequestLength : Nat := 48

/-- Seconds from 1900-01-01 to 1970-01-01: 25567 days of 86400 seconds (R9, R150), a wired constant (D33). -/
def ntpDelta : Nat := 2208988800
/-- The fraction is scaled by exactly 2^32 (R155). -/
def fracScale : Nat := 4294967296
/-- The largest 32-bit seconds value, the end of NTP era 0 (R157). -/
def maxSeconds : Nat := 0xFFFFFFFF

end Sys2Proof.Machine
end

