-- ==== Sys2Proof/Machine/Operands.lean ====
section
/-! DEFINITION. What each operand form of R62 to R65 stands for. -/

namespace Sys2Proof.Machine

/-- The text of a F_IPS field: its first `len` bytes; the other bytes are ignored (R62, R111). -/
def addressText (len : Byte) (text : List Byte) : List Byte := text.take len.toNat

/-- `now`: a signed two's-complement 64-bit count of ticks since the Unix epoch (R65, R152). -/
def nowTicks (now : BitVec 64) : Int := now.toInt

/-- `req[40..47]`, the request's transmit timestamp, the only bytes of `req` that are read (R65, R161). -/
def transmitBytes (req : List Byte) : List Byte := slice req 40 8

/-- The source port that goes into the header: 0 is the sentinel "use dst_port" (R63, R124). -/
def effectiveSourcePort (srcPort dstPort : BitVec 32) : BitVec 32 := if srcPort = 0 then dstPort else srcPort

end Sys2Proof.Machine
end

