-- ==== Sys2Proof/Machine/State.lean ====
section
/-! DEFINITION. The machine's whole state (R22, R23, R31), the host agent beside it (R19), and reset. Plain data. -/

namespace Sys2Proof.Machine

/-- The command port's one state variable (R23). -/
inductive Phase where
  /-- No command held; the port accepts a command. -/
  | idle
  /-- Command frame `c` has been accepted and is not yet performed. -/
  | busy (c : Frame)
  /-- Response frame `r` is ready and has not been collected. -/
  | done (r : Frame)
  deriving DecidableEq, Repr

/-- One step the host still wants to take at the port (R24, R26, R73). -/
inductive HostStep where
  /-- Issue this command frame. -/
  | issue (c : Frame)
  /-- Copy the result of the n-th response collected (Qn of R73, counted from 1) into a BUILD_RESP with this time and issue
  that; if that response's status is not OK, issue nothing (R74, R238; log 11). DESIGN CHOICE (log 11): an OK result of 20 or
  8 bytes is copied as it is, and the frame issued is then too short. -/
  | replyTo (n : Nat) (now : BitVec 64)
  deriving DecidableEq, Repr

/-- Which transition is attempted next: the three of R24, and the reset of R230. -/
inductive Turn where
  | issue | perform | collect | reset
  deriving DecidableEq, Repr

/-- Everything the spec gives the machine, and the host agent. -/
structure State where
  /-- The configuration values, fixed at instantiation (R22; log 4). -/
  config : Config
  /-- The command port (R23). -/
  phase : Phase
  /-- The host's steps not yet taken, oldest first (R19, R24; log 6). -/
  program : List HostStep
  /-- The responses the host has collected, oldest first (R24; log 6). -/
  received : List Frame
  /-- The response to the command the host issued last has not been collected (R24, R239; log 6). Set by Issue and cleared by
  Collect alone: a reset that drops the command does not clear it, since the host never received the response. -/
  awaiting : Bool
  /-- The turns to be attempted next; when empty, the fair order of `defaultTurn` holds (R240; log 7). -/
  schedule : List Turn
  deriving DecidableEq, Repr

/-- The reasons the machine could stop with a fault. There is none, so this type is empty: an error is a response, the Codec
"never halts on an error" (R200, R210), and `Exec` is total (R70). Nobody raises it; safe (log 9). -/
inductive Fault where
  deriving DecidableEq, Repr

/-- The reasons a step could be refused. -/
inductive Refusal where
  /-- An instruction without a meaning in the model, by its mnemonic in the opcode table. Only a refused arm of `exec` raises
  it, and there is none; safe. -/
  | notModelled (mnemonic : String)
  deriving DecidableEq, Repr

/-- The block right after reset, instantiated with `cfg` (R31, R230), beside a host with nothing to do. -/
def State.resetWith (cfg : Config) : State :=
  { config := cfg, phase := .idle, program := [], received := [], awaiting := false, schedule := [] }

/-- The machine right after reset (R31): the OPEN parameters uninterpreted (log 1, log 2), `TICK_HZ` at its default (log 3). -/
def State.reset : State := State.resetWith Config.instantiated

end Sys2Proof.Machine
end

