-- ==== Sys2Proof/Machine/Ops.lean ====
section
/-! DEFINITION. The operations every command shares: errors and their codes (R66, R200), the response frame (R66), the one
delivery of a response (R203, R24), and the port's own transitions (R24, R230). Taking an exception is `deliver` on an error:
the Codec has no trap entry or return (R210); an error IS the response. -/

namespace Sys2Proof.Machine

/-- The six error kinds (R200). -/
inductive ErrorKind where
  | invalidAddress | invalidPort | malformedPacket | lengthOutOfRange | clockOutOfRange | illegalCommand
  deriving DecidableEq, Repr

/-- The status code of an error (R66, R200). -/
def ErrorKind.code : ErrorKind → Byte
  | .invalidAddress => 0x01
  | .invalidPort => 0x02
  | .malformedPacket => 0x03
  | .lengthOutOfRange => 0x04
  | .clockOutOfRange => 0x05
  | .illegalCommand => 0x7F

/-- The status of a success (R66). -/
def statusOk : Byte := 0x00

/-- What a command computes: the result bytes Q, or the error it raises (R12, R66). -/
abbrev Result := Except ErrorKind (List Byte)

/-- `raise E` ends the command (R12): no result bytes are produced (R203). -/
def raise (e : ErrorKind) : Result := .error e

/-- `respond OK with Q`. -/
def respondOk (q : List Byte) : Result := .ok q

/-- The response frame: status, number of result bytes, result (R66); `[code(E), 0x00]` for an error (R203). -/
def responseFrame : Result → Frame
  | .ok q => statusOk :: BitVec.ofNat 8 q.length :: q
  | .error e => [e.code, 0x00]

/-- The end of Perform: `phase <- Done(R)`, after a success and after an error alike (R24, R203). Nothing else changes. -/
def deliver (r : Result) (s : State) : Host.Outcome State Fault Refusal :=
  .next { s with phase := .done (responseFrame r) }

/-- Issue captures the value of the frame: `phase <- Busy(C)` (R24, R50). The host now awaits its response (R239). -/
def issueFrame (c : Frame) (s : State) : State := { s with phase := .busy c, awaiting := true }

/-- Collect in `Done(R)`: `phase <- Idle`, and the host receives R (R24), the response it awaited (R239). -/
def collectResponse (r : Frame) (s : State) : State :=
  { s with phase := .idle, received := s.received ++ [r], awaiting := false }

/-- Reset: `phase <- Idle`; a pending command or response is dropped, the configuration stays (R230). The host
still awaits a response that was dropped (R231, R239). -/
def resetPort (s : State) : State := { s with phase := .idle }

end Sys2Proof.Machine
end

