-- ==== Sys2Proof/WellFormed.lean ====
section
/-! DEFINITION. Which commands a frame can carry: every byte-array operand has exactly the size of its field (R62, R64,
R65). Values are not checked here: a text length above 15, a port above 0xFFFF and the like are legal encodings that the
command itself rejects (R71). -/

namespace Sys2Proof

/-- A text field of F_IPS is 15 bytes (R62). -/
abbrev textFieldLength : Nat := 15

/-- An NTP packet is 48 bytes (R8, R140). -/
abbrev ntpPacketLength : Nat := 48

/-- The command fits its format (R61 to R65). -/
def Instr.wellFormed : Instr → Bool
  | .buildIpA _ _ => true
  | .buildIpS _ srcText _ dstText => srcText.length == textFieldLength && dstText.length == textFieldLength
  | .buildUdp _ _ _ => true
  | .parseReq _ data => data.length == ntpPacketLength
  | .buildResp req _ => req.length == ntpPacketLength

end Sys2Proof
end

