-- ==== Sys2Proof/Machine/HeaderBuilder.lean ====
section
/-! DEFINITION. The Header Builder: BUILD_IP_A (R103), BUILD_IP_S (R113) and BUILD_UDP (R123), line by line. -/

namespace Sys2Proof.Machine

/-- The 20-byte IPv4 header (R100, R103). -/
def ipv4Header (cfg : Config) (srcAddr dstAddr : Ipv4Addr) : List Byte :=
  []
  |> memWrite 0 [ipVersionIhl]
  |> memWrite 1 [ipTos]
  |> memWrite 2 (be16 ipTotalLength)
  |> memWrite 4 (be16 cfg.ipId)
  |> memWrite 6 (be16 ipFlagsFragment)
  |> memWrite 8 [ipTtl]
  |> memWrite 9 [ipProtocol]
  |> memWrite 10 (be16 ipChecksum)
  |> memWrite 12 srcAddr.bytes
  |> memWrite 16 dstAddr.bytes

/-- BUILD_IP_A never fails: every 4-byte value is an address (R103). -/
def execBuildIpA (srcAddr dstAddr : Ipv4Addr) (s : State) : Host.Outcome State Fault Refusal :=
  deliver (respondOk (ipv4Header s.config srcAddr dstAddr)) s

/-- BUILD_IP_S's result: a length above 15 fails without any byte being read (R111), then both texts are parsed (R113). -/
def buildIpSResult (cfg : Config) (srcLen : Byte) (srcText : List Byte) (dstLen : Byte) (dstText : List Byte) : Result :=
  if srcLen.toNat > textFieldLength ∨ dstLen.toNat > textFieldLength then raise .invalidAddress
  else
    match parseIpv4 (addressText srcLen srcText), parseIpv4 (addressText dstLen dstText) with
    | some srcAddr, some dstAddr => respondOk (ipv4Header cfg srcAddr dstAddr)
    | _, _ => raise .invalidAddress

/-- BUILD_IP_S (R113). -/
def execBuildIpS (srcLen : Byte) (srcText : List Byte) (dstLen : Byte) (dstText : List Byte) (s : State) :
    Host.Outcome State Fault Refusal :=
  deliver (buildIpSResult s.config srcLen srcText dstLen dstText) s

/-- The 8-byte UDP header (R120, R123): the ports and the length are the low 16 bits of values that fit. -/
def udpHeader (srcPort dstPort payloadLength : BitVec 32) : List Byte :=
  []
  |> memWrite 0 (be16 ((effectiveSourcePort srcPort dstPort).setWidth 16))
  |> memWrite 2 (be16 (dstPort.setWidth 16))
  |> memWrite 4 (be16 (BitVec.ofNat 16 (payloadLength.toNat + udpHeaderLength)))
  |> memWrite 6 (be16 udpChecksum)

/-- BUILD_UDP's result: the port checks, then the length check, in the order of R123 and R207. -/
def buildUdpResult (srcPort dstPort payloadLength : BitVec 32) : Result :=
  if srcPort.toNat > maxPort then raise .invalidPort
  else if dstPort.toNat > maxPort then raise .invalidPort
  else if dstPort.toNat = 0 then raise .invalidPort
  else if payloadLength.toNat > maxPayloadLength then raise .lengthOutOfRange
  else respondOk (udpHeader srcPort dstPort payloadLength)

/-- BUILD_UDP (R123). -/
def execBuildUdp (srcPort dstPort payloadLength : BitVec 32) (s : State) : Host.Outcome State Fault Refusal :=
  deliver (buildUdpResult srcPort dstPort payloadLength) s

end Sys2Proof.Machine
end

