-- ==== Sys2Proof/Machine/Timestamp.lean ====
section
/-! DEFINITION. The timestamp encoder TsEnc (R153 to R157), in exact integer arithmetic (D16). -/

namespace Sys2Proof.Machine

/-- A 32.32 timestamp: seconds since the NTP epoch and the fraction times 2^32 (R143). -/
structure Timestamp where
  secs : BitVec 32
  frac : BitVec 32
  deriving DecidableEq, Repr

/-- The wire image `be32(secs) ++ be32(frac)` (R42, R143). -/
def Timestamp.bytes (t : Timestamp) : List Byte := be32 t.secs ++ be32 t.frac

/-- `RoundHalfEven(num / den)`: the nearest integer, the even one of two at a tie (R154). -/
def roundHalfEven (num den : Nat) : Nat :=
  let below := num / den
  let rest := num % den
  if 2 * rest < den then below
  else if den < 2 * rest then below + 1
  else if below % 2 = 0 then below
  else below + 1

/-- `q`: whole Unix seconds, the floor also for a negative time (R153). -/
def unixSeconds (hz : Nat) (now : Int) : Int := now / (hz : Int)

/-- `r = now mod TICK_HZ`, in `0 .. hz-1` (R153). -/
def subSecondTicks (hz : Nat) (now : Int) : Nat := (now % (hz : Int)).toNat

/-- `F` before the carry: `RoundHalfEven(r · 2^32 / TICK_HZ)` (R153, R155). -/
def roundedFraction (hz : Nat) (now : Int) : Nat := roundHalfEven (fracScale * subSecondTicks hz now) hz

/-- `S` after the carry: a fraction that rounds to 2^32 adds 1 to the seconds (R153, R156). -/
def ntpSeconds (hz : Nat) (now : Int) : Int :=
  if roundedFraction hz now = fracScale then unixSeconds hz now + ntpDelta + 1 else unixSeconds hz now + ntpDelta

/-- `F` after the carry: 0 where the fraction rounded to 2^32 (R153, R156). -/
def ntpFraction (hz : Nat) (now : Int) : Nat :=
  if roundedFraction hz now = fracScale then 0 else roundedFraction hz now

/-- `TsEnc(now)`: the pair (S, F), or ClockOutOfRange when S after the carry is outside NTP era 0 (R153, R157). -/
def tsEnc (hz : Nat) (now : Int) : Except ErrorKind Timestamp :=
  if ntpSeconds hz now < 0 ∨ ntpSeconds hz now > (maxSeconds : Int) then .error .clockOutOfRange
  else .ok ⟨BitVec.ofNat 32 (ntpSeconds hz now).toNat, BitVec.ofNat 32 (ntpFraction hz now)⟩

end Sys2Proof.Machine
end

