-- ==== Sys2Proof/Machine/NtpCodec.lean ====
section
/-! DEFINITION. The NTP Frame Codec: PARSE_REQ (R146) and BUILD_RESP (R161), line by line. -/

namespace Sys2Proof.Machine

/-- PARSE_REQ's result: the 48 bytes as they came, no field checked (R146, R147). -/
def parseReqResult (rxLen : BitVec 16) (data : List Byte) : Result :=
  if rxLen.toNat < minRequestLength then raise .malformedPacket else respondOk (memWrite 0 data [])

/-- PARSE_REQ (R146). -/
def execParseReq (rxLen : BitVec 16) (data : List Byte) (s : State) : Host.Outcome State Fault Refusal :=
  deliver (parseReqResult rxLen data) s

/-- The 48-byte response for the encoded time `ts` (R160, R161). -/
def ntpResponse (cfg : Config) (req : List Byte) (ts : Timestamp) : List Byte :=
  []
  |> memWrite 0 [ntpFlagByte]
  |> memWrite 1 [ntpStratum]
  |> memWrite 2 [ntpPoll]
  |> memWrite 3 [ntpPrecision]
  |> memWrite 4 (be32 ntpRootDelay)
  |> memWrite 8 (be32 ntpRootDispersion)
  |> memWrite 12 cfg.refId.bytes
  |> memWrite 16 (be32 ts.secs)
  |> memWrite 20 (be32 0)
  |> memWrite 24 (transmitBytes req)
  |> memWrite 32 (be32 ts.secs)
  |> memWrite 36 (be32 ts.frac)
  |> memWrite 40 (be32 ts.secs)
  |> memWrite 44 (be32 ts.frac)

/-- BUILD_RESP's result (R161): its only error is the clock's (R157). -/
def buildRespResult (cfg : Config) (req : List Byte) (now : BitVec 64) : Result :=
  match tsEnc cfg.tickHz.hz (nowTicks now) with
  | .error e => raise e
  | .ok ts => respondOk (ntpResponse cfg req ts)

/-- BUILD_RESP (R161). -/
def execBuildResp (req : List Byte) (now : BitVec 64) (s : State) : Host.Outcome State Fault Refusal :=
  deliver (buildRespResult s.config req now) s

end Sys2Proof.Machine
end

