-- ==== Sys2Proof/Machine/Dispatch.lean ====
section
/-! DEFINITION. One arm per command (R70): Perform on a decoded frame. -/

namespace Sys2Proof.Machine

def exec (i : Instr) (s : State) : Host.Outcome State Fault Refusal :=
  match i with
  -- Header Builder
  | .buildIpA srcAddr dstAddr => Sys2Proof.Machine.execBuildIpA srcAddr dstAddr s
  | .buildIpS srcLen srcText dstLen dstText => Sys2Proof.Machine.execBuildIpS srcLen srcText dstLen dstText s
  | .buildUdp srcPort dstPort payloadLength => Sys2Proof.Machine.execBuildUdp srcPort dstPort payloadLength s
  -- NTP Frame Codec
  | .parseReq rxLen data => Sys2Proof.Machine.execParseReq rxLen data s
  | .buildResp req now => Sys2Proof.Machine.execBuildResp req now s

end Sys2Proof.Machine
end

