-- ==== Sys2Proof/Decode.lean ====
section
/-! DEFINITION. Command frames to commands and back (R60 to R65, R70 to R72). `decode` is total on every byte sequence and
rejects by name; `encode` is written from the same format tables. -/

namespace Sys2Proof

/-- The five opcodes of R60. -/
inductive Opcode where
  | buildIpA | buildIpS | buildUdp | parseReq | buildResp
  deriving DecidableEq, Repr

/-- The two functional units (R1). -/
inductive FunctionalUnit where
  | headerBuilder | ntpFrameCodec
  deriving DecidableEq, Repr

/-- The opcode byte `C[0]` (R60). -/
def Opcode.byte : Opcode → Byte
  | .buildIpA => 0x10
  | .buildIpS => 0x11
  | .buildUdp => 0x12
  | .parseReq => 0x20
  | .buildResp => 0x21

/-- The frame length the opcode alone fixes (R60). -/
def Opcode.frameLength : Opcode → Nat
  | .buildIpA => 9
  | .buildIpS => 33
  | .buildUdp => 13
  | .parseReq => 51
  | .buildResp => 57

/-- The unit the command belongs to (R60). -/
def Opcode.unit : Opcode → FunctionalUnit
  | .buildIpA => .headerBuilder
  | .buildIpS => .headerBuilder
  | .buildUdp => .headerBuilder
  | .parseReq => .ntpFrameCodec
  | .buildResp => .ntpFrameCodec

/-- Bits [7:4] of an opcode name the unit: 1 is the Header Builder, 2 the NTP Frame Codec (R60). -/
def FunctionalUnit.code : FunctionalUnit → BitVec 4
  | .headerBuilder => 1
  | .ntpFrameCodec => 2

/-- The mnemonic (R60). -/
def Opcode.mnemonic : Opcode → String
  | .buildIpA => "BUILD_IP_A"
  | .buildIpS => "BUILD_IP_S"
  | .buildUdp => "BUILD_UDP"
  | .parseReq => "PARSE_REQ"
  | .buildResp => "BUILD_RESP"

/-- The decoder matches the whole opcode byte (R60, R70): the other 251 values are illegal (R71). -/
def Opcode.ofByte (b : Byte) : Option Opcode :=
  if b = 0x10 then some .buildIpA
  else if b = 0x11 then some .buildIpS
  else if b = 0x12 then some .buildUdp
  else if b = 0x20 then some .parseReq
  else if b = 0x21 then some .buildResp
  else none

/-- The opcode of a command. -/
def Instr.opcode : Instr → Opcode
  | .buildIpA _ _ => .buildIpA
  | .buildIpS _ _ _ _ => .buildIpS
  | .buildUdp _ _ _ => .buildUdp
  | .parseReq _ _ => .parseReq
  | .buildResp _ _ => .buildResp

/-- The three ways a frame is illegal (R70, R71). All give status IllegalCommand (R206). -/
inductive IllegalFrame where
  /-- The frame has no byte. -/
  | emptyFrame
  /-- `C[0]` is none of the five opcodes. -/
  | unknownOpcode (op : Byte)
  /-- The frame's length is not its opcode's. -/
  | wrongLength (op : Opcode) (length : Nat)
  deriving DecidableEq, Repr

/-- Operand assembly, per format (R61 to R65, R72). No operand is scaled or shifted. -/
def Opcode.assemble : Opcode → Frame → Instr
  | .buildIpA, c => .buildIpA (addrAt c 1) (addrAt c 5)
  | .buildIpS, c => .buildIpS (byteAt c 1) (slice c 2 15) (byteAt c 17) (slice c 18 15)
  | .buildUdp, c =>
    .buildUdp (BitVec.ofNat 32 (memRead c 1 4)) (BitVec.ofNat 32 (memRead c 5 4)) (BitVec.ofNat 32 (memRead c 9 4))
  | .parseReq, c => .parseReq (BitVec.ofNat 16 (memRead c 1 2)) (slice c 3 48)
  | .buildResp, c => .buildResp (slice c 1 48) (BitVec.ofNat 64 (memRead c 49 8))

/-- The dispatch of R70, up to the choice of the command. -/
def decode (c : Frame) : Except IllegalFrame Instr :=
  match c with
  | [] => .error .emptyFrame
  | b :: _ =>
    match Opcode.ofByte b with
    | none => .error (.unknownOpcode b)
    | some op => if c.length = op.frameLength then .ok (op.assemble c) else .error (.wrongLength op c.length)

/-- The frame of a well-formed command, from the format tables (R60 to R65). -/
def encode : Instr → Frame
  | .buildIpA srcAddr dstAddr => 0x10 :: (srcAddr.bytes ++ dstAddr.bytes)
  | .buildIpS srcLen srcText dstLen dstText => 0x11 :: srcLen :: (srcText ++ dstLen :: dstText)
  | .buildUdp srcPort dstPort payloadLength => 0x12 :: (be32 srcPort ++ be32 dstPort ++ be32 payloadLength)
  | .parseReq rxLen data => 0x20 :: (be16 rxLen ++ data)
  | .buildResp req now => 0x21 :: (req ++ be64 now)

/-- The low `n` bytes of `w`, least significant first: byte `i` of the frame is bits `8i+7 .. 8i` of the opcode table's
numbering, and the opcode is byte 0. -/
def bytesOfWord : Nat → Nat → List Byte
  | 0, _ => []
  | n + 1, w => BitVec.ofNat 8 w :: bytesOfWord n (w / 256)

/-- The frame whose bits are `w` in the opcode table's numbering: `nbits` bits in whole bytes, and zero bytes above them up
to the frame length the opcode fixes (R60; log 12). -/
def frameOfTableWord (nbits w : Nat) : Frame :=
  let given := (nbits + 7) / 8
  let bits := w % 2 ^ nbits
  let full := match Opcode.ofByte (BitVec.ofNat 8 bits) with
    | some op => op.frameLength
    | none => given
  bytesOfWord (max given full) bits

/-- The command the decoder reads from a word of the opcode table. -/
def decodeTableWord (nbits w : Nat) : Option Instr :=
  match decode (frameOfTableWord nbits w) with
  | .ok i => some i
  | .error _ => none

end Sys2Proof
end

