-- ==== Sys2Proof/Machine/HostProgram.lean ====
section
/-! DEFINITION. The host agent's programs: what a host step puts into the command port (R26, R74, R238), the assembler lines
of R73 as data, and the two pseudo-instructions of R74. -/

namespace Sys2Proof.Machine

/-- The n-th response of the program, counted from 1 (R73). -/
def nthResponse (received : List Frame) (n : Nat) : Option Frame :=
  match n with
  | 0 => none
  | k + 1 => received[k]?

/-- The result field of a response whose status is OK (R66); none if the status is an error. -/
def okResult (r : Frame) : Option (List Byte) :=
  match r with
  | status :: _ :: q => if status = statusOk then some q else none
  | _ => none

/-- The frame a host step issues, given the responses collected so far; none when the host issues nothing (R74). DESIGN CHOICE
(log 11): R73 does not say what `BUILD_RESP Qn` is when the n-th response is OK with a result of 20 or 8 bytes; the host copies
those bytes as they are, and the frame, shorter than 57 bytes, is answered IllegalCommand (R70). -/
def hostStepFrame (received : List Frame) : HostStep → Option Frame
  | .issue c => some c
  | .replyTo n now =>
    match (nthResponse received n).bind okResult with
    | some q => some (encode (.buildResp q now))
    | none => none

/-- One line of R73's syntax, its numbers and texts already read (Assembler.lean reads them from text). -/
inductive AsmLine where
  /-- `BUILD_IP_A <d>.<d>.<d>.<d>, <d>.<d>.<d>.<d>`. -/
  | buildIpA (srcAddr dstAddr : Ipv4Addr)
  /-- `BUILD_IP_S "<text>", "<text>"`. -/
  | buildIpS (src dst : List Byte)
  /-- `BUILD_UDP <src_port>, <dst_port>, <payload_length>`. -/
  | buildUdp (srcPort dstPort payloadLength : BitVec 32)
  /-- `PARSE_REQ <rx_len>, <hex bytes, 48 or fewer>`. -/
  | parseReq (rxLen : BitVec 16) (bytes : List Byte)
  /-- `BUILD_RESP <48 hex bytes>, <now>`. -/
  | buildResp (req : List Byte) (now : Int)
  /-- `BUILD_RESP Qn, <now>`. -/
  | buildRespQ (n : Nat) (now : Int)
  deriving DecidableEq, Repr

/-- Missing bytes are 0x00 (R73). -/
def padZero (n : Nat) (b : List Byte) : List Byte := b ++ List.replicate (n - b.length) 0x00

/-- The host step of a line; none where the line's bytes do not fit its operand (R62, R64, R65, R73; log 16). -/
def assembleLine : AsmLine → Option HostStep
  | .buildIpA srcAddr dstAddr => some (.issue (encode (.buildIpA srcAddr dstAddr)))
  | .buildIpS src dst =>
    if src.length ≤ textFieldLength ∧ dst.length ≤ textFieldLength then
      some (.issue (encode (.buildIpS (BitVec.ofNat 8 src.length) (padZero textFieldLength src)
        (BitVec.ofNat 8 dst.length) (padZero textFieldLength dst))))
    else none
  | .buildUdp srcPort dstPort payloadLength => some (.issue (encode (.buildUdp srcPort dstPort payloadLength)))
  | .parseReq rxLen bytes =>
    if bytes.length ≤ ntpPacketLength then some (.issue (encode (.parseReq rxLen (padZero ntpPacketLength bytes))))
    else none
  | .buildResp req now =>
    if req.length = ntpPacketLength then some (.issue (encode (.buildResp req (BitVec.ofInt 64 now)))) else none
  | .buildRespQ n now => some (.replyTo n (BitVec.ofInt 64 now))

/-- `NTP_REPLY <rx_len>, <bytes>, <now>` (R74): PARSE_REQ, then, if its status is OK, BUILD_RESP of its result. `n` is the
number the PARSE_REQ's response has in the program (R74 writes Q1). -/
def ntpReply (n : Nat) (rxLen : BitVec 16) (bytes : List Byte) (now : Int) : List AsmLine :=
  [.parseReq rxLen bytes, .buildRespQ n now]

/-- `UDP_HDRS "<src>", "<dst>", <sport>, <dport>, <len>` (R74): BUILD_IP_S, then BUILD_UDP. -/
def udpHdrs (src dst : List Byte) (srcPort dstPort payloadLength : BitVec 32) : List AsmLine :=
  [.buildIpS src dst, .buildUdp srcPort dstPort payloadLength]

end Sys2Proof.Machine
end

