-- ==== Sys2Proof/Machine/Perform.lean ====
section
/-! DEFINITION. The transitions of the command port (R24, R230) and the order they are attempted in. -/

namespace Sys2Proof.Machine

/-- Perform on the frame held: `phase <- Done(Exec(C))` (R24, R70). An illegal frame is answered IllegalCommand (R206). -/
def perform (c : Frame) (s : State) : Host.Outcome State Fault Refusal :=
  match decode c with
  | .ok i => exec i s
  | .error _ => deliver (raise .illegalCommand) s

/-- The host's next step at an idle port: it issues a frame, or, where R74 has it issue nothing, goes on (R24, R74). -/
def takeHostStep (h : HostStep) (s : State) : State :=
  match hostStepFrame s.received h with
  | some c => issueFrame c s
  | none => s

/-- Issue, in Idle, of the host's next step. In another phase the host is held and keeps its step: "no host step is lost"
(R24; log 8). -/
def issueTurn (s : State) : State :=
  match s.phase, s.program with
  | .idle, h :: rest => takeHostStep h { s with program := rest }
  | _, _ => s

/-- Perform, in Busy (R24). Not enabled in another phase (log 8). -/
def performTurn (s : State) : Host.Outcome State Fault Refusal :=
  match s.phase with
  | .busy c => perform c s
  | _ => .next s

/-- Collect, in Done (R24). Not enabled in another phase (log 8). -/
def collectTurn (s : State) : State :=
  match s.phase with
  | .done r => collectResponse r s
  | _ => s

/-- One turn: a transition of R24, or the reset of R230, which can land in any phase. -/
def takeTurn (t : Turn) (s : State) : Host.Outcome State Fault Refusal :=
  match t with
  | .issue => .next (issueTurn s)
  | .perform => performTurn s
  | .collect => .next (collectTurn s)
  | .reset => .next (resetPort s)

/-- The turn attempted when the schedule names none: the one transition of R24 that the phase enables (R240: the Codec never
holds a command for ever; log 7). -/
def defaultTurn : Phase → Turn
  | .idle => .issue
  | .busy _ => .perform
  | .done _ => .collect

end Sys2Proof.Machine
end

