-- ==== Sys2Proof/Machine/Step.lean ====
section
/-! DEFINITION. One step of the machine: the next turn of the schedule, or the default turn. -/

namespace Sys2Proof.Machine

/-- One step (R24, R230). In Idle with nothing to issue the Codec waits (R217; log 10). -/
def step (s : State) : Host.Outcome State Fault Refusal :=
  match s.schedule with
  | [] => takeTurn (defaultTurn s.phase) s
  | t :: rest => takeTurn t { s with schedule := rest }

/-- `s` with the frame of a table word issued at the command port and no other turn before its Perform, so that the next
step performs exactly it. The Codec fetches nothing (R21, R50): a command comes from outside (log 13). -/
def State.withFetchWord (s : State) (nbits w : Nat) : State :=
  issueFrame (frameOfTableWord nbits w) { s with schedule := [] }

end Sys2Proof.Machine
end

