-- ==== Sys2Proof/Machine/Flags.lean ====
section
/-! DEFINITION. The Codec has no status flags or condition codes (R28), so no command computes one. What the spec calls flags
is the first byte of an NTP packet, and its three subfields are here (R141). -/

namespace Sys2Proof.Machine

/-- `LI = flags[7:6]` (R141). -/
def flagLI (flags : Byte) : BitVec 2 := flags.extractLsb' 6 2

/-- `VN = flags[5:3]` (R141). -/
def flagVN (flags : Byte) : BitVec 3 := flags.extractLsb' 3 3

/-- `Mode = flags[2:0]` (R141). -/
def flagMode (flags : Byte) : BitVec 3 := flags.extractLsb' 0 3

/-- The flag byte with these subfields, the first most significant (R141). -/
def packFlags (li : BitVec 2) (vn mode : BitVec 3) : Byte := li ++ vn ++ mode

end Sys2Proof.Machine
end

