-- ==== Sys2Proof/Machine/NtpPacket.lean ====
section
/-! DEFINITION. The NTP packet as a record (R140, R145). Fields are bit strings; none is interpreted (R142). -/

namespace Sys2Proof.Machine

/-- The fields of R140, in order. -/
structure NtpPacket where
  flags : Byte
  stratum : Byte
  poll : Byte
  precision : Byte
  rootDelay : BitVec 32
  rootDispersion : BitVec 32
  refId : BitVec 32
  refTs : BitVec 64
  orgTs : BitVec 64
  recTs : BitVec 64
  xmtTs : BitVec 64
  deriving DecidableEq, Repr

/-- The record decoded from `d[0..47]` (R145). -/
def NtpPacket.ofBytes (d : List Byte) : NtpPacket where
  flags := byteAt d 0
  stratum := byteAt d 1
  poll := byteAt d 2
  precision := byteAt d 3
  rootDelay := BitVec.ofNat 32 (u (slice d 4 4))
  rootDispersion := BitVec.ofNat 32 (u (slice d 8 4))
  refId := BitVec.ofNat 32 (u (slice d 12 4))
  refTs := BitVec.ofNat 64 (u (slice d 16 8))
  orgTs := BitVec.ofNat 64 (u (slice d 24 8))
  recTs := BitVec.ofNat 64 (u (slice d 32 8))
  xmtTs := BitVec.ofNat 64 (u (slice d 40 8))

/-- The record's one byte image, in R140's layout (R145). -/
def NtpPacket.bytes (p : NtpPacket) : List Byte :=
  [p.flags, p.stratum, p.poll, p.precision] ++ be32 p.rootDelay ++ be32 p.rootDispersion ++ be32 p.refId
    ++ be64 p.refTs ++ be64 p.orgTs ++ be64 p.recTs ++ be64 p.xmtTs

/-- The leap indicator of the record (R145). -/
def NtpPacket.li (p : NtpPacket) : BitVec 2 := flagLI p.flags

/-- The version number of the record (R145). -/
def NtpPacket.vn (p : NtpPacket) : BitVec 3 := flagVN p.flags

/-- The mode of the record (R145). -/
def NtpPacket.mode (p : NtpPacket) : BitVec 3 := flagMode p.flags

end Sys2Proof.Machine
end

