-- ==== Sys2Proof/Safety.lean ====
section
/-! DEFINITION. The terms statements use: the response a frame has, what a legal response is, what a safe port is, and when a
host program's run is finished. -/

namespace Sys2Proof.Machine

/-- The response frame held in Done; empty in the other phases. -/
def Phase.response : Phase → Frame
  | .done r => r
  | _ => []

/-- `s` with the response `r` pending in Done, and everything else as it was (R24, R203). -/
abbrev State.answered (s : State) (r : Frame) : State := { s with phase := .done r }

/-- `Exec(C)` under a configuration: the response Perform leaves (R25), read from a port that holds nothing else. -/
def responseTo (cfg : Config) (c : Frame) : Frame :=
  match perform c (State.resetWith cfg) with
  | .next s => s.phase.response
  | _ => []

/-- The status values of R66. -/
def statusValues : List Byte := [0x00, 0x01, 0x02, 0x03, 0x04, 0x05, 0x7F]

/-- A response frame as R66 and its table have it: a known status, the number of result bytes, that many bytes; 20, 8 or 48
of them on success (R44) and none on an error (R203). -/
def legalResponse (r : Frame) : Bool :=
  match r with
  | status :: n :: q =>
    statusValues.contains status && n.toNat == q.length &&
      (if status = 0x00 then [8, 20, 48].contains q.length else q.length == 0)
  | _ => false

/-- The responses a state holds are legal: the one pending in Done and every one the host has received. -/
def State.responsesLegal (s : State) : Bool :=
  (match s.phase with
    | .done r => legalResponse r
    | _ => true) && s.received.all legalResponse

/-- The end of a host program's run (R239): the last command issued, that command's response collected, the port in Idle. -/
def State.runFinished (s : State) : Bool := s.phase == .idle && s.program.isEmpty && !s.awaiting

/-- A command or response the port holds is one the host still awaits (R24, R239). -/
def State.pendingIsAwaited (s : State) : Bool := s.phase == .idle || s.awaiting

/-- The bytes of a frame that no rule reads (R71): text bytes at or beyond the given length in F_IPS, data bytes at or beyond
`rx_len` in F_PRQ, request bytes 0 to 39 in F_BRS. -/
def ignoredByte (c : Frame) (i : Nat) : Bool :=
  match (c.head?).bind Opcode.ofByte with
  | some .buildIpS =>
    (2 ≤ i && i ≤ 16 && (byteAt c 1).toNat ≤ i - 2) || (18 ≤ i && i ≤ 32 && (byteAt c 17).toNat ≤ i - 18)
  | some .parseReq => 3 ≤ i && i ≤ 50 && memRead c 1 2 ≤ i - 3
  | some .buildResp => 1 ≤ i && i ≤ 40
  | _ => false

end Sys2Proof.Machine
end

