-- ==== Sys2Proof/Certificates/Slice0/Obligations.lean ====
section
/-! DEFINITION. The statements for the provers, in the order of OBLIGATIONS.json. Each holds for every configuration the spec
admits, since a state carries its configuration. -/

open Sys2Proof Sys2Proof.Machine

/-- R31: after reset the port is Idle, with nothing pending, and the configuration is the one instantiated. -/
def Obligations.ResetLeavesIdlePort : Prop :=
  (∀ cfg : Config, (State.resetWith cfg).phase = .idle ∧ (State.resetWith cfg).config = cfg) ∧
  State.reset.phase = .idle

/-- R230: a reset, in any phase, makes the port Idle; a pending command or response is dropped (the host receives nothing),
and the configuration stays. The schedule that names the reset is the model's (log 7), and so are the host's lists and its
flag, which stay too (log 6). -/
def Obligations.ResetTurnDropsPendingWork : Prop :=
  ∀ (s : State) (turns : List Turn), s.schedule = .reset :: turns →
    step s = .next { s with phase := .idle, schedule := turns }

/-- R100, R103: BUILD_IP_A, from any state and addresses, leaves the OK response with the 20-byte header, and changes nothing
but the phase. -/
def Obligations.BuildIpAWritesHeader : Prop :=
  ∀ (srcAddr dstAddr : Ipv4Addr) (s : State),
    exec (.buildIpA srcAddr dstAddr) s = .next (s.answered
      ([0x00, 0x14] ++ ([0x45, 0x00, 0x00, 0x00] ++ be16 s.config.ipId ++ [0x00, 0x00, 0xFF, 0x11, 0x00, 0x00]
        ++ [srcAddr.b0, srcAddr.b1, srcAddr.b2, srcAddr.b3] ++ [dstAddr.b0, dstAddr.b1, dstAddr.b2, dstAddr.b3])))

/-- R104: the result has 20 bytes, the two addresses are read back from offsets 12 and 16, and bytes 0 to 11 are the same for
any addresses under the same `IP_ID`. -/
def Obligations.BuildIpAResultRecoversAddresses : Prop :=
  ∀ (srcAddr dstAddr srcAddr' dstAddr' : Ipv4Addr) (s s' : State), s.config.ipId = s'.config.ipId →
    ∃ q q', exec (.buildIpA srcAddr dstAddr) s = .next (s.answered (0x00 :: 0x14 :: q)) ∧
      exec (.buildIpA srcAddr' dstAddr') s' = .next (s'.answered (0x00 :: 0x14 :: q')) ∧
      q.length = 20 ∧ addrAt q 12 = srcAddr ∧ addrAt q 16 = dstAddr ∧ q.take 12 = q'.take 12

/-- R112, R113: with two texts of at most 15 bytes that parse, BUILD_IP_S leaves the OK response with BUILD_IP_A's header for
the two addresses. -/
def Obligations.BuildIpSWritesHeaderOfParsedTexts : Prop :=
  ∀ (srcLen dstLen : Byte) (srcText dstText : List Byte) (srcAddr dstAddr : Ipv4Addr) (s : State),
    srcLen.toNat ≤ 15 → dstLen.toNat ≤ 15 →
    parseIpv4 (srcText.take srcLen.toNat) = some srcAddr → parseIpv4 (dstText.take dstLen.toNat) = some dstAddr →
    exec (.buildIpS srcLen srcText dstLen dstText) s = .next (s.answered
      ([0x00, 0x14] ++ ([0x45, 0x00, 0x00, 0x00] ++ be16 s.config.ipId ++ [0x00, 0x00, 0xFF, 0x11, 0x00, 0x00]
        ++ [srcAddr.b0, srcAddr.b1, srcAddr.b2, srcAddr.b3] ++ [dstAddr.b0, dstAddr.b1, dstAddr.b2, dstAddr.b3])))

/-- R111, R201 (for BUILD_IP_S): InvalidAddress is the response exactly when a text is longer than 15 bytes or does not
parse. -/
def Obligations.BuildIpSInvalidAddressExactly : Prop :=
  ∀ (srcLen dstLen : Byte) (srcText dstText : List Byte) (s : State),
    exec (.buildIpS srcLen srcText dstLen dstText) s = .next (s.answered [0x01, 0x00]) ↔
      (srcLen.toNat > 15 ∨ dstLen.toNat > 15 ∨ parseIpv4 (srcText.take srcLen.toNat) = none ∨
        parseIpv4 (dstText.take dstLen.toNat) = none)

/-- R110: the strict grammar accepts, for each address, exactly one text: four decimal components without leading zeros,
joined by dots. -/
def Obligations.ParseIpv4AcceptsExactlyDottedQuads : Prop :=
  ∀ (t : List Byte) (a : Ipv4Addr), parseIpv4 t = some a ↔ t = dottedQuad a

/-- The source's property P-1 (R104, R113): on the dotted-quad texts of any two addresses, whatever bytes follow the texts,
BUILD_IP_S answers as BUILD_IP_A does on the addresses. -/
def Obligations.BuildIpSOnDottedQuadsIsBuildIpA : Prop :=
  ∀ (a b : Ipv4Addr) (pad pad' : List Byte) (s : State),
    (dottedQuad a).length ≤ 15 ∧ (dottedQuad b).length ≤ 15 ∧
    exec (.buildIpS (BitVec.ofNat 8 (dottedQuad a).length) (dottedQuad a ++ pad)
      (BitVec.ofNat 8 (dottedQuad b).length) (dottedQuad b ++ pad')) s = exec (.buildIpA a b) s

/-- R120, R124: with valid ports and an accepted length, BUILD_UDP leaves the OK response with the 8-byte header; a source
port of 0 stands for the destination port. -/
def Obligations.BuildUdpWritesHeader : Prop :=
  ∀ (srcPort dstPort payloadLength : BitVec 32) (s : State),
    srcPort.toNat ≤ 0xFFFF → 1 ≤ dstPort.toNat → dstPort.toNat ≤ 0xFFFF → payloadLength.toNat ≤ 65527 →
    exec (.buildUdp srcPort dstPort payloadLength) s = .next (s.answered
      ([0x00, 0x08] ++ (be16 (BitVec.ofNat 16 (if srcPort.toNat = 0 then dstPort.toNat else srcPort.toNat))
        ++ be16 (BitVec.ofNat 16 dstPort.toNat) ++ be16 (BitVec.ofNat 16 (payloadLength.toNat + 8)) ++ [0x00, 0x00])))

/-- R121: InvalidPort is the response exactly when a port is above 0xFFFF or the destination port is 0; a source port of 0 is
valid. -/
def Obligations.BuildUdpInvalidPortExactly : Prop :=
  ∀ (srcPort dstPort payloadLength : BitVec 32) (s : State),
    exec (.buildUdp srcPort dstPort payloadLength) s = .next (s.answered [0x02, 0x00]) ↔
      (srcPort.toNat > 0xFFFF ∨ dstPort.toNat > 0xFFFF ∨ dstPort.toNat = 0)

/-- R204: LengthOutOfRange is the response exactly when the payload length is above 65527 and, the port checks coming first,
no port is invalid. -/
def Obligations.BuildUdpLengthOutOfRangeExactly : Prop :=
  ∀ (srcPort dstPort payloadLength : BitVec 32) (s : State),
    exec (.buildUdp srcPort dstPort payloadLength) s = .next (s.answered [0x04, 0x00]) ↔
      (payloadLength.toNat > 65527 ∧ srcPort.toNat ≤ 0xFFFF ∧ dstPort.toNat ≤ 0xFFFF ∧ dstPort.toNat ≠ 0)

/-- R125 (its first two points): reading the fields of an accepted header back gives the ports and the length, the source
port being the destination's where the operand was 0; the checksum field is 0. -/
def Obligations.BuildUdpResultRoundTrips : Prop :=
  ∀ (srcPort dstPort payloadLength : BitVec 32) (s : State),
    srcPort.toNat ≤ 0xFFFF → 1 ≤ dstPort.toNat → dstPort.toNat ≤ 0xFFFF → payloadLength.toNat ≤ 65527 →
    ∃ q, exec (.buildUdp srcPort dstPort payloadLength) s = .next (s.answered (0x00 :: 0x08 :: q)) ∧
      q.length = 8 ∧ u (slice q 0 2) = (if srcPort.toNat = 0 then dstPort.toNat else srcPort.toNat) ∧
      u (slice q 2 2) = dstPort.toNat ∧ u (slice q 4 2) = payloadLength.toNat + 8 ∧ u (slice q 6 2) = 0

/-- R147: every 48-byte input with `rx_len` of at least 48 parses: the OK response carries the bytes unchanged. -/
def Obligations.ParseReqReturnsImage : Prop :=
  ∀ (rxLen : BitVec 16) (data : List Byte) (s : State), data.length = 48 → 48 ≤ rxLen.toNat →
    exec (.parseReq rxLen data) s = .next (s.answered ([0x00, 0x30] ++ data))

/-- R144: fewer than 48 bytes is malformed, and nothing else is. -/
def Obligations.ParseReqMalformedExactly : Prop :=
  ∀ (rxLen : BitVec 16) (data : List Byte) (s : State),
    exec (.parseReq rxLen data) s = .next (s.answered [0x03, 0x00]) ↔ rxLen.toNat < 48

/-- R145: the record and its 48-byte image determine each other, the image is the PARSE_REQ result, and the fields are the
bytes at R140's offsets, with the flag byte's subfields of R141. -/
def Obligations.NtpRecordDeterminesImage : Prop :=
  (∀ p : NtpPacket, p.bytes.length = 48 ∧ NtpPacket.ofBytes p.bytes = p) ∧
  (∀ d : List Byte, d.length = 48 → (NtpPacket.ofBytes d).bytes = d) ∧
  (∀ (p : NtpPacket) (rxLen : BitVec 16) (s : State), 48 ≤ rxLen.toNat →
    exec (.parseReq rxLen p.bytes) s = .next (s.answered ([0x00, 0x30] ++ p.bytes))) ∧
  (∀ d : List Byte, d.length = 48 →
    (NtpPacket.ofBytes d).flags = byteAt d 0 ∧ (NtpPacket.ofBytes d).li.toNat = (byteAt d 0).toNat / 64 ∧
    (NtpPacket.ofBytes d).vn.toNat = (byteAt d 0).toNat / 8 % 8 ∧ (NtpPacket.ofBytes d).mode.toNat = (byteAt d 0).toNat % 8 ∧
    (NtpPacket.ofBytes d).stratum = byteAt d 1 ∧ (NtpPacket.ofBytes d).poll = byteAt d 2 ∧
    (NtpPacket.ofBytes d).precision = byteAt d 3 ∧ (NtpPacket.ofBytes d).rootDelay.toNat = u (slice d 4 4) ∧
    (NtpPacket.ofBytes d).rootDispersion.toNat = u (slice d 8 4) ∧ be32 (NtpPacket.ofBytes d).refId = slice d 12 4 ∧
    (NtpPacket.ofBytes d).refTs.toNat = u (slice d 16 8) ∧ (NtpPacket.ofBytes d).orgTs.toNat = u (slice d 24 8) ∧
    (NtpPacket.ofBytes d).recTs.toNat = u (slice d 32 8) ∧ (NtpPacket.ofBytes d).xmtTs.toNat = u (slice d 40 8))

/-- R141: the three subfields make up the flag byte, and 0x24 holds LI 0, VN 4, Mode 4. -/
def Obligations.FlagByteSubfields : Prop :=
  (∀ flags : Byte, packFlags (flagLI flags) (flagVN flags) (flagMode flags) = flags) ∧
  flagLI 0x24 = 0 ∧ flagVN 0x24 = 4 ∧ flagMode 0x24 = 4

/-- R160, R161: for a time that encodes, BUILD_RESP leaves the OK response with the 48 bytes of R160's table. -/
def Obligations.BuildRespWritesResponse : Prop :=
  ∀ (req : List Byte) (now : BitVec 64) (ts : Timestamp) (s : State), req.length = 48 →
    tsEnc s.config.tickHz.hz now.toInt = .ok ts →
    exec (.buildResp req now) s = .next (s.answered
      ([0x00, 0x30] ++ ([0x24, 0x01, 0x03, 0xE9] ++ [0, 0, 0, 0] ++ [0, 0, 0, 0] ++ s.config.refId.bytes
        ++ (be32 ts.secs ++ [0, 0, 0, 0]) ++ (req.drop 40).take 8
        ++ (be32 ts.secs ++ be32 ts.frac) ++ (be32 ts.secs ++ be32 ts.frac))))

/-- R205: ClockOutOfRange is the response exactly when the seconds after the carry fall outside 0..0xFFFFFFFF. -/
def Obligations.BuildRespClockOutOfRangeExactly : Prop :=
  ∀ (req : List Byte) (now : BitVec 64) (s : State),
    exec (.buildResp req now) s = .next (s.answered [0x05, 0x00]) ↔
      (ntpSeconds s.config.tickHz.hz now.toInt < 0 ∨ ntpSeconds s.config.tickHz.hz now.toInt > 0xFFFFFFFF)

/-- R157 at `TICK_HZ` = 10^6: BUILD_RESP answers the 48-byte OK response exactly for
-2208988800000000 ≤ now ≤ 2085978495999999, and ClockOutOfRange for every other time. -/
def Obligations.BuildRespAdmittedTimesAtMicroseconds : Prop :=
  ∀ (req : List Byte) (now : BitVec 64) (s : State), req.length = 48 → s.config.tickHz.hz = 1000000 →
    ((-2208988800000000 ≤ now.toInt ∧ now.toInt ≤ 2085978495999999) →
      ∃ q, q.length = 48 ∧ exec (.buildResp req now) s = .next (s.answered (0x00 :: 0x30 :: q))) ∧
    (¬(-2208988800000000 ≤ now.toInt ∧ now.toInt ≤ 2085978495999999) →
      exec (.buildResp req now) s = .next (s.answered [0x05, 0x00]))

/-- R153 to R157 as one fact: `TsEnc` gives (S, F) exactly when S·2^32 + F is the time since the NTP epoch, in units of
2^-32 s, rounded to the nearest integer, to the even one at a tie. No floating point, no wrap. -/
def Obligations.TsEncIsTimeRoundedHalfEven : Prop :=
  ∀ (hz : Nat) (now : Int) (ts : Timestamp), 0 < hz →
    (tsEnc hz now = .ok ts ↔
      2 * |(4294967296 * (ts.secs.toNat : Int) + ts.frac.toNat) * hz - 4294967296 * (now + 2208988800 * hz)| ≤ hz ∧
      (2 * |(4294967296 * (ts.secs.toNat : Int) + ts.frac.toNat) * hz - 4294967296 * (now + 2208988800 * hz)| = hz →
        ts.frac.toNat % 2 = 0))

/-- R154: `RoundHalfEven` is the nearest integer, the even one at a tie; no other number is. -/
def Obligations.RoundHalfEvenIsNearest : Prop :=
  ∀ (num den f : Nat), 0 < den →
    (roundHalfEven num den = f ↔
      2 * |(f : Int) * den - num| ≤ den ∧ (2 * |(f : Int) * den - num| = den → f % 2 = 0))

/-- R156: a fraction that rounds to 2^32 adds 1 to the seconds and leaves the fraction 0. -/
def Obligations.TsEncCarriesIntoSeconds : Prop :=
  ∀ (hz : Nat) (now : Int) (ts : Timestamp), 0 < hz →
    roundHalfEven (4294967296 * (now % hz).toNat) hz = 4294967296 → tsEnc hz now = .ok ts →
    ts.frac = 0 ∧ (ts.secs.toNat : Int) = now / hz + 2208988800 + 1

/-- R159: the encoded seconds are monotone in the time. -/
def Obligations.TsEncSecondsMonotone : Prop :=
  ∀ (hz : Nat) (now1 now2 : Int) (ts1 ts2 : Timestamp), 0 < hz → now1 < now2 →
    tsEnc hz now1 = .ok ts1 → tsEnc hz now2 = .ok ts2 → ts1.secs.toNat ≤ ts2.secs.toNat

/-- The first two facts of R158 at `TICK_HZ` = 10^6: no tie, and no fraction above the one at r = 999999, so no carry. -/
def Obligations.NoTieAndNoCarryAtMicroseconds : Prop :=
  (∀ r : Nat, r < 1000000 →
    2 * (4294967296 * r % 1000000) ≠ 1000000 ∧ roundHalfEven (4294967296 * r) 1000000 ≤ 4294963001) ∧
  roundHalfEven (4294967296 * 999999) 1000000 = 4294963001

/-- When a carry can occur (R153, R154, R156, vector V-TS-16): for some sub-second tick count exactly when `TICK_HZ` is at least
2^33. R158's remark has "> 2^33"; the model follows the algorithm (log 14). -/
def Obligations.CarryOccursExactlyFromTwoPow33 : Prop :=
  ∀ hz : Nat, 1000000 ≤ hz →
    ((∃ r, r < hz ∧ roundHalfEven (4294967296 * r) hz = 4294967296) ↔ 8589934592 ≤ hz)

/-- R74, R162 (the source's P-5): from an idle port, the two commands of NTP_REPLY on any well-formed request and any time
that encodes end with the port idle and the host holding the request's image and a 48-byte response whose bytes 24 to 31 are
the request's bytes 40 to 47. The run in the default order of turns is the model's (log 7, log 11). -/
def Obligations.NtpReplyEchoesTransmitTimestamp : Prop :=
  ∀ (rxLen : BitVec 16) (data : List Byte) (now : Int) (ts : Timestamp) (s : State),
    data.length = 48 → 48 ≤ rxLen.toNat → -(2 ^ 63) ≤ now → now < 2 ^ 63 → tsEnc s.config.tickHz.hz now = .ok ts →
    s.phase = .idle → s.schedule = [] →
    s.program = (ntpReply (s.received.length + 1) rxLen data now).filterMap assembleLine →
    ∃ q, q.length = 48 ∧ slice q 24 8 = slice data 40 8 ∧
      core.run 6 s = .next { s with
        program := []
        received := s.received ++ [0x00 :: 0x30 :: data, 0x00 :: 0x30 :: q]
        awaiting := false }

/-- R74: after a PARSE_REQ whose status is not OK, NTP_REPLY issues no BUILD_RESP. The run in the default order of turns is
the model's (log 7, log 11). -/
def Obligations.NtpReplyOfMalformedRequestIssuesNothing : Prop :=
  ∀ (rxLen : BitVec 16) (data : List Byte) (now : Int) (s : State),
    data.length ≤ 48 → rxLen.toNat < 48 → s.phase = .idle → s.schedule = [] →
    s.program = (ntpReply (s.received.length + 1) rxLen data now).filterMap assembleLine →
    core.run 4 s = .next { s with program := [], received := s.received ++ [[0x03, 0x00]], awaiting := false }

/-- R71 (its second point): two frames of one length that agree outside the ignored bytes get the same response. -/
def Obligations.IgnoredBytesDoNotMatter : Prop :=
  ∀ (c₁ c₂ : Frame) (s : State), c₁.length = c₂.length → (∀ i, ignoredByte c₁ i = false → c₁[i]? = c₂[i]?) →
    perform c₁ s = perform c₂ s

/-- R163: the response does not depend on any request field but the transmit timestamp, in a whole frame. -/
def Obligations.ResponseDependsOnlyOnTransmitTimestamp : Prop :=
  ∀ (req req' : List Byte) (now : BitVec 64) (s : State), req.length = 48 → req'.length = 48 →
    req.drop 40 = req'.drop 40 →
    perform (0x21 :: (req ++ be64 now)) s = perform (0x21 :: (req' ++ be64 now)) s

/-- Every well-formed command, with every operand value, is read back from its own frame (R60 to R65, R70). -/
def Obligations.DecodeOfEncodeIsIdentity : Prop :=
  ∀ i : Instr, i.wellFormed = true → decode (encode i) = .ok i

/-- Every frame the decoder accepts is the one frame of a well-formed command: no bit is dropped (R60 to R65, R70). -/
def Obligations.EncodeOfDecodeIsIdentity : Prop :=
  ∀ (c : Frame) (i : Instr), decode c = .ok i → i.wellFormed = true ∧ encode i = c

/-- R206: IllegalCommand is the response exactly to the empty frame, to an opcode that is none of the five, and to a length
that is not the opcode's. -/
def Obligations.IllegalCommandExactly : Prop :=
  ∀ (c : Frame) (s : State),
    perform c s = .next (s.answered [0x7F, 0x00]) ↔
      (c = [] ∨ (∀ op len, (op, len) ∈ [((0x10 : Byte), 9), (0x11, 33), (0x12, 13), (0x20, 51), (0x21, 57)] →
        c.head? = some op → c.length ≠ len))

/-- R60: the table of opcodes: byte, frame length, and the unit that bits [7:4] name. -/
def Obligations.OpcodeTable : Prop :=
  [Opcode.buildIpA, .buildIpS, .buildUdp, .parseReq, .buildResp].map (fun op => (op.mnemonic, op.byte, op.frameLength, op.unit))
    = [("BUILD_IP_A", 0x10, 9, FunctionalUnit.headerBuilder), ("BUILD_IP_S", 0x11, 33, .headerBuilder),
       ("BUILD_UDP", 0x12, 13, .headerBuilder), ("PARSE_REQ", 0x20, 51, .ntpFrameCodec),
       ("BUILD_RESP", 0x21, 57, .ntpFrameCodec)] ∧
  ∀ op : Opcode, op.byte.extractLsb' 4 4 = op.unit.code

/-- Frames written out from R61, R63 and R64 (vectors V-IPA-1, V-UDP-2, V-PRQ-6) decode to the commands they stand for. -/
def Obligations.WrittenFramesDecode : Prop :=
  decode [0x10, 0x0A, 0x00, 0x00, 0x01, 0x0A, 0x00, 0x00, 0x02] = .ok (.buildIpA ⟨10, 0, 0, 1⟩ ⟨10, 0, 0, 2⟩) ∧
  decode [0x12, 0x00, 0x00, 0x04, 0xD2, 0x00, 0x00, 0x00, 0x35, 0x00, 0x00, 0x00, 0x64] = .ok (.buildUdp 1234 53 100) ∧
  decode ([0x20, 0x00, 0x30] ++ List.replicate 48 0x00) = .ok (.parseReq 48 (List.replicate 48 0x00))

/-- R24, R70: when Perform's turn comes with a frame held, the step is `exec` of the decoded command; a frame that does not
decode is answered IllegalCommand. Its turn comes when the schedule is empty or names it (log 7). -/
def Obligations.StepPerformsDecodedCommand : Prop :=
  ∀ (s : State) (c : Frame), s.phase = .busy c → (s.schedule = [] ∨ s.schedule.head? = some .perform) →
    (∀ i, decode c = .ok i → step s = exec i { s with schedule := s.schedule.tail }) ∧
    ((∀ i, decode c ≠ .ok i) → step s = .next { s with phase := .done [0x7F, 0x00], schedule := s.schedule.tail })

/-- R24: Issue in Idle captures the frame, and Collect in Done gives the host the response; in another phase neither is
enabled and nothing but the model's schedule moves (log 7, log 8), so a held host loses no step. The flag that says whether
the host awaits a response is the model's (log 6). -/
def Obligations.IssueAndCollectTurns : Prop :=
  (∀ (s : State) (c : Frame) (rest : List HostStep) (turns : List Turn),
    s.phase = .idle → s.program = .issue c :: rest → s.schedule = .issue :: turns →
    step s = .next { s with phase := .busy c, program := rest, awaiting := true, schedule := turns }) ∧
  (∀ (s : State) (turns : List Turn), s.phase ≠ .idle → s.schedule = .issue :: turns →
    step s = .next { s with schedule := turns }) ∧
  (∀ (s : State) (r : Frame) (turns : List Turn), s.phase = .done r → s.schedule = .collect :: turns →
    step s = .next { s with phase := .idle, received := s.received ++ [r], awaiting := false, schedule := turns }) ∧
  (∀ (s : State) (turns : List Turn), (∀ r, s.phase ≠ .done r) → s.schedule = .collect :: turns →
    step s = .next { s with schedule := turns })

/-- R24 ("No other transition exists") with R230: whatever a step does is Issue, Perform, Collect, a reset, or nothing at the
port. The model's choices and readings in it: the schedule moves to its tail (log 7), a turn that is not enabled changes nothing
at the port (log 8), a host step can be used up without an Issue (log 11), and the host's lists and flag are its own (log 6). -/
def Obligations.StepTakesOnlyPortTransitions : Prop :=
  ∀ s s' : State, step s = .next s' →
    s'.config = s.config ∧ s'.schedule = s.schedule.tail ∧
    ((s.phase = .idle ∧ s'.received = s.received ∧ ∃ h, s.program = h :: s'.program ∧
        ((∃ c, hostStepFrame s.received h = some c ∧ s'.phase = .busy c ∧ s'.awaiting = true) ∨
          (hostStepFrame s.received h = none ∧ s'.phase = .idle ∧ s'.awaiting = s.awaiting))) ∨
     (∃ c, s.phase = .busy c ∧ s'.phase = .done (responseTo s.config c) ∧ s'.program = s.program ∧
        s'.received = s.received ∧ s'.awaiting = s.awaiting) ∨
     (∃ r, s.phase = .done r ∧ s'.phase = .idle ∧ s'.program = s.program ∧ s'.received = s.received ++ [r] ∧
        s'.awaiting = false) ∨
     (s.schedule.head? = some .reset ∧ s'.phase = .idle ∧ s'.program = s.program ∧ s'.received = s.received ∧
        s'.awaiting = s.awaiting) ∨
     (s'.phase = s.phase ∧ s'.program = s.program ∧ s'.received = s.received ∧ s'.awaiting = s.awaiting))

/-- Every state has a next one. That no step faults or refuses is the model's deduction from R70 (`Exec` is total) and R210
("never halts on an error") (log 9); that a step in Idle with nothing to issue waits is its reading of R217 (log 10), and that a
turn not enabled answers a next state is its reading of R24 (log 8). -/
def Obligations.StepAlwaysAnswersNext : Prop :=
  ∀ s : State, ∃ s', step s = .next s'

/-- R66, R44, R203: the responses pending or received stay legal along every step, from every state where they are: a known
status, its length byte, and 20, 8 or 48 result bytes on success and none on an error. -/
def Obligations.StepKeepsResponsesLegal : Prop :=
  ∀ s s' : State, s.responsesLegal = true → step s = .next s' → s'.responsesLegal = true

/-- The responses of the reset state are legal in R66's sense: none is pending (R31), and the host has received none, which
is the model's choice (log 6). -/
def Obligations.ResetResponsesLegal : Prop := State.reset.responsesLegal = true

/-- R22: no command, and no other step, changes the configuration, along any run. -/
def Obligations.RunKeepsConfiguration : Prop :=
  ∀ (k : Nat) (s s' : State), core.run k s = .next s' → s'.config = s.config

/-- R25: Perform answers a function of the frame and the configuration alone, and changes nothing but the phase. -/
def Obligations.ResponseDependsOnlyOnFrameAndConfiguration : Prop :=
  ∀ (c : Frame) (s : State), perform c s = .next (s.answered (responseTo s.config c))

/-- R48: from an idle port, any list of frames is answered one at a time and in order, each by exactly one response, and the
port ends idle, the last response collected. The run in the default order of turns is the model's (log 7), and the flag that
says whether the host awaits a response is too (log 6). -/
def Obligations.IssuedFramesAnsweredInOrder : Prop :=
  ∀ (cs : List Frame) (s : State), s.phase = .idle → s.schedule = [] → s.program = cs.map .issue →
    core.run (3 * cs.length) s =
      .next { s with
        program := []
        received := s.received ++ cs.map (responseTo s.config)
        awaiting := s.awaiting && cs.isEmpty }

/-- R240 (weak fairness), as the model's schedule renders it (log 7): a command held is performed, or dropped by a reset that
the schedule names, within the schedule's length and one more step. -/
def Obligations.BusyPortIsNeverHeldForever : Prop :=
  ∀ (s : State) (c : Frame), s.phase = .busy c →
    ∃ k s', k ≤ s.schedule.length + 1 ∧ core.run k s = .next s' ∧
      (s'.phase = .done (responseTo s.config c) ∨ (.reset ∈ s.schedule ∧ s'.phase = .idle))

/-- R217, R239: at the end of a host program's run the Codec waits; with no turn named, a step changes nothing (log 10). -/
def Obligations.FinishedRunWaits : Prop :=
  ∀ s : State, s.runFinished = true → s.schedule = [] → step s = .next s

/-- R239: a run whose last command was dropped is not finished: from every state where what the port holds is awaited, a reset
in Busy or Done leaves a state that is not the end of a run, though it is Idle. The flag and the schedule are the model's
(log 6, log 7). -/
def Obligations.ResetOfPendingWorkIsNoFinishedRun : Prop :=
  ∀ (s s' : State) (turns : List Turn), s.pendingIsAwaited = true → s.phase ≠ .idle → s.schedule = .reset :: turns →
    step s = .next s' → s'.phase = .idle ∧ s'.runFinished = false

/-- R239: a step can make the host await no longer only by a Collect that gives it the response pending. The flag is the
model's (log 6). -/
def Obligations.AwaitingEndsOnlyByCollect : Prop :=
  ∀ s s' : State, step s = .next s' → s.awaiting = true → s'.awaiting = false →
    ∃ r, s.phase = .done r ∧ s'.phase = .idle ∧ s'.received = s.received ++ [r]

/-- R24, R239: along every step, from every state where it is so, what the port holds in Busy or Done is something the host
still awaits. The flag is the model's (log 6). -/
def Obligations.StepKeepsPendingAwaited : Prop :=
  ∀ s s' : State, s.pendingIsAwaited = true → step s = .next s' → s'.pendingIsAwaited = true

/-- In the reset state nothing is pending (R31), so what is pending is awaited; the flag is the model's (log 6). -/
def Obligations.ResetPendingAwaited : Prop := State.reset.pendingIsAwaited = true

/-- R232: a configuration is instantiated exactly when each `REFID` byte is below 0x80 and `TICK_HZ` is at least 1,000,000, and
then it holds the values given. -/
def Obligations.InstantiateAdmitsExactly : Prop :=
  ∀ (ipId : BitVec 16) (r0 r1 r2 r3 : Byte) (hz : Nat),
    ((∃ cfg, Config.instantiate ipId r0 r1 r2 r3 hz = some cfg) ↔
      (r0.toNat < 0x80 ∧ r1.toNat < 0x80 ∧ r2.toNat < 0x80 ∧ r3.toNat < 0x80 ∧ 1000000 ≤ hz)) ∧
    ∀ cfg, Config.instantiate ipId r0 r1 r2 r3 hz = some cfg →
      cfg.ipId = ipId ∧ cfg.refId.bytes = [r0, r1, r2, r3] ∧ cfg.tickHz.hz = hz

/-- R200 (which command raises which error), R201, R202, R208 ("No other command raises it"): the status of a command's
response names only an error of that command; no decoded command answers IllegalCommand. -/
def Obligations.ErrorsComeOnlyFromTheirCommand : Prop :=
  ∀ (i : Instr) (s s' : State) (status : Byte) (rest : Frame),
    exec i s = .next s' → s'.phase = .done (status :: rest) →
    (status = 0x00) ∨ (status = 0x01 ∧ i.opcode = .buildIpS) ∨ (status = 0x02 ∧ i.opcode = .buildUdp) ∨
      (status = 0x03 ∧ i.opcode = .parseReq) ∨ (status = 0x04 ∧ i.opcode = .buildUdp) ∨
      (status = 0x05 ∧ i.opcode = .buildResp)

/-- R44 (its table): the result bytes on success, per command. -/
def Obligations.ResultSizesOnSuccess : Prop :=
  ∀ (i : Instr) (s s' : State) (n : Byte) (q : List Byte), i.wellFormed = true →
    exec i s = .next s' → s'.phase = .done (0x00 :: n :: q) →
    n.toNat = q.length ∧ q.length =
      (match i.opcode with
        | .buildIpA => 20 | .buildIpS => 20 | .buildUdp => 8 | .parseReq => 48 | .buildResp => 48)
end

