-- ==== Sys2Proof/Laws/Bytes.lean ====
section
/-! SUPPORT. What the byte primitives do: lengths, reading back what was encoded, and writing at the end of the result. -/

namespace Sys2Proof

@[simp] theorem be16_length (v : BitVec 16) : (be16 v).length = 2 := rfl
@[simp] theorem be32_length (v : BitVec 32) : (be32 v).length = 4 := rfl
@[simp] theorem be64_length (v : BitVec 64) : (be64 v).length = 8 := rfl
@[simp] theorem Ipv4Addr.bytes_length (a : Ipv4Addr) : a.bytes.length = 4 := rfl

@[simp] theorem be16_zero : be16 0#16 = [0#8, 0#8] := by decide
@[simp] theorem be32_zero : be32 0#32 = [0#8, 0#8, 0#8, 0#8] := by decide

@[simp] theorem slice_length (c : List Byte) (i n : Nat) : (slice c i n).length = min n (c.length - i) := by
  simp [slice]

/-- A big-endian read of a 16-bit encoding gives the value back (R11). -/
@[simp] theorem u_be16 (v : BitVec 16) : u (be16 v) = v.toNat := by
  have := v.isLt
  simp [u, be16, BitVec.extractLsb'_toNat, Nat.shiftRight_eq_div_pow]
  omega

/-- A big-endian read of a 32-bit encoding gives the value back (R11). -/
@[simp] theorem u_be32 (v : BitVec 32) : u (be32 v) = v.toNat := by
  have := v.isLt
  simp [u, be32, BitVec.extractLsb'_toNat, Nat.shiftRight_eq_div_pow]
  omega

/-- A big-endian read of a 64-bit encoding gives the value back (R11). -/
@[simp] theorem u_be64 (v : BitVec 64) : u (be64 v) = v.toNat := by
  have := v.isLt
  simp [u, be64, be32, BitVec.extractLsb'_toNat, Nat.shiftRight_eq_div_pow]
  omega

/-- Two bytes are the encoding of their own reading (R11). -/
theorem be16_u (a b : Byte) : be16 (BitVec.ofNat 16 (u [a, b])) = [a, b] := by
  have := a.isLt; have := b.isLt
  simp only [be16, u, List.foldl, List.cons.injEq, and_true]
  refine ⟨?_, ?_⟩ <;> apply BitVec.eq_of_toNat_eq <;>
    simp [BitVec.extractLsb'_toNat, Nat.shiftRight_eq_div_pow] <;> omega

/-- Four bytes are the encoding of their own reading (R11). -/
theorem be32_u (a b c d : Byte) : be32 (BitVec.ofNat 32 (u [a, b, c, d])) = [a, b, c, d] := by
  have := a.isLt; have := b.isLt; have := c.isLt; have := d.isLt
  simp only [be32, u, List.foldl, List.cons.injEq, and_true]
  refine ⟨?_, ?_, ?_, ?_⟩ <;> apply BitVec.eq_of_toNat_eq <;>
    simp [BitVec.extractLsb'_toNat, Nat.shiftRight_eq_div_pow] <;> omega

/-- Eight bytes are the encoding of their own reading (R11). -/
theorem be64_u (a b c d e f g h : Byte) :
    be64 (BitVec.ofNat 64 (u [a, b, c, d, e, f, g, h])) = [a, b, c, d, e, f, g, h] := by
  have := a.isLt; have := b.isLt; have := c.isLt; have := d.isLt
  have := e.isLt; have := f.isLt; have := g.isLt; have := h.isLt
  simp only [be64, be32, u, List.foldl, List.cons_append, List.nil_append, List.cons.injEq, and_true]
  refine ⟨?_, ?_, ?_, ?_, ?_, ?_, ?_, ?_⟩ <;> apply BitVec.eq_of_toNat_eq <;>
    simp [BitVec.extractLsb'_toNat, Nat.shiftRight_eq_div_pow] <;> omega

/-- A write at the end of the result appends (R12). -/
theorem memWrite_at_end (q bs : List Byte) (addr : Nat) (h : addr = q.length) : memWrite addr bs q = q ++ bs := by
  subst h
  simp [memWrite]

end Sys2Proof
end

