-- ==== Sys2Proof/Laws/Decode.lean ====
section
/-! SUPPORT. What the decoder can answer, and the shape of an encoded command. -/

namespace Sys2Proof

@[simp] theorem Opcode.ofByte_byte (op : Opcode) : Opcode.ofByte op.byte = some op := by
  cases op <;> rfl

/-- Only an opcode's own byte names it (R60, R70). -/
theorem Opcode.ofByte_eq_some {b : Byte} {op : Opcode} (h : Opcode.ofByte b = some op) : b = op.byte := by
  unfold Opcode.ofByte at h
  split_ifs at h <;> (cases h; assumption)

/-- All that a successful decoding says: the first byte is an opcode, the length is that opcode's, and the operands are read
at its offsets (R70). -/
theorem decode_eq_ok {c : Frame} {i : Instr} (h : decode c = .ok i) :
    ∃ (op : Opcode) (rest : Frame), c = op.byte :: rest ∧ c.length = op.frameLength ∧ i = op.assemble c := by
  rcases c with _ | ⟨b, rest⟩
  · cases h
  · rcases hop : Opcode.ofByte b with _ | op
    · simp [decode, hop] at h
    · simp only [decode, hop] at h
      split_ifs at h with hl
      cases h
      exact ⟨op, rest, by rw [Opcode.ofByte_eq_some hop], hl, rfl⟩

/-- A frame with its opcode's byte and length decodes to its operands (R70). -/
theorem decode_of_shape (op : Opcode) (rest : List Byte) (h : rest.length + 1 = op.frameLength) :
    decode (op.byte :: rest) = .ok (op.assemble (op.byte :: rest)) := by
  simp [decode, h]

/-- An encoded command begins with its opcode's byte (R60). -/
theorem encode_head (i : Instr) : ∃ rest, encode i = i.opcode.byte :: rest := by
  cases i <;> exact ⟨_, rfl⟩

@[simp] theorem bytesOfWord_length (n w : Nat) : (bytesOfWord n w).length = n := by
  induction n generalizing w with
  | zero => rfl
  | succ n ih => simp [bytesOfWord, ih]

end Sys2Proof
end

