-- ==== Sys2Proof/Laws/Headers.lean ====
section
/-! SUPPORT. The headers and the response as plain concatenations of their fields: the sequence of MemWrites fills the result
from the left, so each write appends. -/

namespace Sys2Proof.Machine

/-- The IPv4 header's fields in order (R100). -/
theorem ipv4Header_eq (cfg : Config) (a b : Ipv4Addr) :
    ipv4Header cfg a b = [0x45, 0x00, 0x00, 0x00] ++ be16 cfg.ipId ++ [0x00, 0x00, 0xFF, 0x11, 0x00, 0x00]
      ++ a.bytes ++ b.bytes := by
  unfold ipv4Header
  rw [memWrite_at_end _ _ 0 (by simp), memWrite_at_end _ _ 1 (by simp), memWrite_at_end _ _ 2 (by simp),
    memWrite_at_end _ _ 4 (by simp), memWrite_at_end _ _ 6 (by simp), memWrite_at_end _ _ 8 (by simp),
    memWrite_at_end _ _ 9 (by simp), memWrite_at_end _ _ 10 (by simp), memWrite_at_end _ _ 12 (by simp),
    memWrite_at_end _ _ 16 (by simp)]
  simp [ipVersionIhl, ipTos, ipTotalLength, ipFlagsFragment, ipTtl, ipProtocol, ipChecksum]

@[simp] theorem ipv4Header_length (cfg : Config) (a b : Ipv4Addr) : (ipv4Header cfg a b).length = 20 := by
  simp [ipv4Header_eq]

/-- The UDP header's fields in order (R120). -/
theorem udpHeader_eq (sp dp len : BitVec 32) :
    udpHeader sp dp len = be16 ((effectiveSourcePort sp dp).setWidth 16) ++ be16 (dp.setWidth 16)
      ++ be16 (BitVec.ofNat 16 (len.toNat + 8)) ++ [0x00, 0x00] := by
  unfold udpHeader
  rw [memWrite_at_end _ _ 0 (by simp), memWrite_at_end _ _ 2 (by simp), memWrite_at_end _ _ 4 (by simp),
    memWrite_at_end _ _ 6 (by simp)]
  simp [udpHeaderLength, udpChecksum]

@[simp] theorem udpHeader_length (sp dp len : BitVec 32) : (udpHeader sp dp len).length = 8 := by
  simp [udpHeader_eq]

theorem transmitBytes_length (req : List Byte) (h : req.length = 48) : (transmitBytes req).length = 8 := by
  simp [transmitBytes, h]

@[simp] theorem refId_bytes_length (t : AsciiTag) : t.bytes.length = 4 := rfl

@[simp] theorem timestamp_bytes_length (t : Timestamp) : t.bytes.length = 8 := rfl

/-- The NTP response's fields in order (R160). -/
theorem ntpResponse_eq (cfg : Config) (req : List Byte) (ts : Timestamp) (h : req.length = 48) :
    ntpResponse cfg req ts = [0x24, 0x01, 0x03, 0xE9, 0, 0, 0, 0, 0, 0, 0, 0] ++ cfg.refId.bytes
      ++ (be32 ts.secs ++ [0, 0, 0, 0]) ++ transmitBytes req ++ ts.bytes ++ ts.bytes := by
  have hx := transmitBytes_length req h
  unfold ntpResponse
  rw [memWrite_at_end _ _ 0 (by simp), memWrite_at_end _ _ 1 (by simp),
    memWrite_at_end _ _ 2 (by simp), memWrite_at_end _ _ 3 (by simp), memWrite_at_end _ _ 4 (by simp),
    memWrite_at_end _ _ 8 (by simp), memWrite_at_end _ _ 12 (by simp),
    memWrite_at_end _ _ 16 (by simp), memWrite_at_end _ _ 20 (by simp),
    memWrite_at_end _ _ 24 (by simp), memWrite_at_end _ _ 32 (by simp [hx]),
    memWrite_at_end _ _ 36 (by simp [hx]), memWrite_at_end _ _ 40 (by simp [hx]),
    memWrite_at_end _ _ 44 (by simp [hx])]
  simp [Timestamp.bytes, ntpFlagByte, ntpStratum, ntpPoll, ntpPrecision, ntpRootDelay, ntpRootDispersion]

theorem ntpResponse_length (cfg : Config) (req : List Byte) (ts : Timestamp) (h : req.length = 48) :
    (ntpResponse cfg req ts).length = 48 := by
  simp [ntpResponse_eq cfg req ts h, transmitBytes_length req h]

end Sys2Proof.Machine
end

