-- ==== Sys2Proof/Laws/PerInstr.lean ====
section
/-! SUPPORT. Statements about each command as syntax, one lemma per constructor. -/

namespace Sys2Proof.Laws.EncodedLength

/-- The frame of a well-formed command has the length its opcode fixes (R60). -/
def Statement (i : Instr) : Prop := i.wellFormed = true → (encode i).length = i.opcode.frameLength

theorem buildIpA (a b : Ipv4Addr) : Statement (.buildIpA a b) := fun _ => rfl

theorem buildIpS (sl : Byte) (st : List Byte) (dl : Byte) (dt : List Byte) : Statement (.buildIpS sl st dl dt) := by
  intro h
  simp [Instr.wellFormed] at h
  simp [encode, Instr.opcode, Opcode.frameLength, h, textFieldLength]

theorem buildUdp (sp dp len : BitVec 32) : Statement (.buildUdp sp dp len) := fun _ => rfl

theorem parseReq (rx : BitVec 16) (d : List Byte) : Statement (.parseReq rx d) := by
  intro h
  simp [Instr.wellFormed] at h
  simp [encode, Instr.opcode, Opcode.frameLength, h, ntpPacketLength]

theorem buildResp (q : List Byte) (now : BitVec 64) : Statement (.buildResp q now) := by
  intro h
  simp [Instr.wellFormed] at h
  simp [encode, Instr.opcode, Opcode.frameLength, h, ntpPacketLength]

end Sys2Proof.Laws.EncodedLength
end

