-- ==== Sys2Proof/Laws/State.lean ====
section
/-! SUPPORT. One lemma per field per update of the state, true by rfl, so that no later proof unfolds a record update. -/

namespace Sys2Proof.Machine

variable (c r : Frame) (s : State) (cfg : Config)

@[simp] theorem issueFrame_config : (issueFrame c s).config = s.config := rfl
@[simp] theorem issueFrame_phase : (issueFrame c s).phase = .busy c := rfl
@[simp] theorem issueFrame_program : (issueFrame c s).program = s.program := rfl
@[simp] theorem issueFrame_received : (issueFrame c s).received = s.received := rfl
@[simp] theorem issueFrame_awaiting : (issueFrame c s).awaiting = true := rfl
@[simp] theorem issueFrame_schedule : (issueFrame c s).schedule = s.schedule := rfl

@[simp] theorem collectResponse_config : (collectResponse r s).config = s.config := rfl
@[simp] theorem collectResponse_phase : (collectResponse r s).phase = .idle := rfl
@[simp] theorem collectResponse_program : (collectResponse r s).program = s.program := rfl
@[simp] theorem collectResponse_received : (collectResponse r s).received = s.received ++ [r] := rfl
@[simp] theorem collectResponse_awaiting : (collectResponse r s).awaiting = false := rfl
@[simp] theorem collectResponse_schedule : (collectResponse r s).schedule = s.schedule := rfl

@[simp] theorem resetPort_config : (resetPort s).config = s.config := rfl
@[simp] theorem resetPort_phase : (resetPort s).phase = .idle := rfl
@[simp] theorem resetPort_program : (resetPort s).program = s.program := rfl
@[simp] theorem resetPort_received : (resetPort s).received = s.received := rfl
@[simp] theorem resetPort_awaiting : (resetPort s).awaiting = s.awaiting := rfl
@[simp] theorem resetPort_schedule : (resetPort s).schedule = s.schedule := rfl

@[simp] theorem resetWith_config : (State.resetWith cfg).config = cfg := rfl
@[simp] theorem resetWith_phase : (State.resetWith cfg).phase = .idle := rfl
@[simp] theorem resetWith_program : (State.resetWith cfg).program = [] := rfl
@[simp] theorem resetWith_received : (State.resetWith cfg).received = [] := rfl
@[simp] theorem resetWith_awaiting : (State.resetWith cfg).awaiting = false := rfl
@[simp] theorem resetWith_schedule : (State.resetWith cfg).schedule = [] := rfl

/-- All that the delivery of a response can do (R203): it answers a next state, and only the phase differs. -/
theorem deliver_eq_next (q : Result) (s s' : State) :
    deliver q s = .next s' ↔ s' = { s with phase := .done (responseFrame q) } := by
  simp [deliver, eq_comm]

end Sys2Proof.Machine
end

