-- ==== Sys2Proof/Laws/Results.lean ====
section
/-! SUPPORT. The response frames, and one lemma per command that says once which result it delivers. -/

namespace Sys2Proof.Machine

@[simp] theorem responseFrame_raise (e : ErrorKind) : responseFrame (raise e) = [e.code, 0x00] := rfl

@[simp] theorem responseFrame_respondOk (q : List Byte) :
    responseFrame (respondOk q) = 0x00 :: BitVec.ofNat 8 q.length :: q := rfl

/-- No error has the status of a success (R66). -/
theorem ErrorKind.code_ne_ok (e : ErrorKind) : e.code ≠ 0x00 := by cases e <;> decide

/-- The status codes of two different errors differ (R66). -/
theorem ErrorKind.code_injective (e f : ErrorKind) (h : e.code = f.code) : e = f := by
  cases e <;> cases f <;> first | rfl | (exact absurd h (by decide))

/-- An operand of BUILD_IP_S is a bad text: too long, or not parsed (R111, R113). -/
theorem buildIpSResult_cases (cfg : Config) (sl : Byte) (st : List Byte) (dl : Byte) (dt : List Byte) :
    (∃ a b, sl.toNat ≤ 15 ∧ dl.toNat ≤ 15 ∧ parseIpv4 (addressText sl st) = some a ∧ parseIpv4 (addressText dl dt) = some b ∧
      buildIpSResult cfg sl st dl dt = respondOk (ipv4Header cfg a b)) ∨
    ((sl.toNat > 15 ∨ dl.toNat > 15 ∨ parseIpv4 (addressText sl st) = none ∨ parseIpv4 (addressText dl dt) = none) ∧
      buildIpSResult cfg sl st dl dt = raise .invalidAddress) := by
  unfold buildIpSResult
  by_cases hl : sl.toNat > textFieldLength ∨ dl.toNat > textFieldLength
  · rw [if_pos hl]
    exact .inr ⟨hl.elim .inl (fun h => .inr (.inl h)), rfl⟩
  · rw [if_neg hl]
    have hs : sl.toNat ≤ 15 := by simp [textFieldLength] at hl; omega
    have hd : dl.toNat ≤ 15 := by simp [textFieldLength] at hl; omega
    rcases h1 : parseIpv4 (addressText sl st) with _ | a
    · exact .inr ⟨.inr (.inr (.inl rfl)), rfl⟩
    · rcases h2 : parseIpv4 (addressText dl dt) with _ | b
      · exact .inr ⟨.inr (.inr (.inr rfl)), rfl⟩
      · exact .inl ⟨a, b, hs, hd, rfl, rfl, rfl⟩

/-- BUILD_UDP: an invalid port, else too long a payload, else the header (R123, R207). -/
theorem buildUdpResult_cases (sp dp len : BitVec 32) :
    ((sp.toNat > 65535 ∨ dp.toNat > 65535 ∨ dp.toNat = 0) ∧ buildUdpResult sp dp len = raise .invalidPort) ∨
    (sp.toNat ≤ 65535 ∧ dp.toNat ≤ 65535 ∧ dp.toNat ≠ 0 ∧ len.toNat > 65527 ∧
      buildUdpResult sp dp len = raise .lengthOutOfRange) ∨
    (sp.toNat ≤ 65535 ∧ dp.toNat ≤ 65535 ∧ dp.toNat ≠ 0 ∧ len.toNat ≤ 65527 ∧
      buildUdpResult sp dp len = respondOk (udpHeader sp dp len)) := by
  unfold buildUdpResult maxPort maxPayloadLength
  split
  · exact .inl ⟨.inl ‹_›, rfl⟩
  split
  · exact .inl ⟨.inr (.inl ‹_›), rfl⟩
  split
  · exact .inl ⟨.inr (.inr ‹_›), rfl⟩
  split
  · exact .inr (.inl ⟨by omega, by omega, by omega, by omega, rfl⟩)
  · exact .inr (.inr ⟨by omega, by omega, by omega, by omega, rfl⟩)

/-- PARSE_REQ: malformed below 48 bytes, else the image (R146). -/
theorem parseReqResult_cases (rx : BitVec 16) (d : List Byte) :
    (rx.toNat < 48 ∧ parseReqResult rx d = raise .malformedPacket) ∨
    (48 ≤ rx.toNat ∧ parseReqResult rx d = respondOk d) := by
  unfold parseReqResult minRequestLength
  split
  · exact .inl ⟨‹_›, rfl⟩
  · exact .inr ⟨by omega, by simp [memWrite]⟩

/-- BUILD_RESP on a time that encodes (R161). -/
theorem buildRespResult_of_ok (cfg : Config) (req : List Byte) (now : BitVec 64) (ts : Timestamp)
    (h : tsEnc cfg.tickHz.hz (nowTicks now) = .ok ts) :
    buildRespResult cfg req now = respondOk (ntpResponse cfg req ts) := by
  simp [buildRespResult, h]

/-- TsEnc encodes exactly when the seconds after the carry lie in NTP era 0 (R157). -/
theorem tsEnc_cases (hz : Nat) (now : Int) :
    ((ntpSeconds hz now < 0 ∨ ntpSeconds hz now > 0xFFFFFFFF) ∧ tsEnc hz now = .error .clockOutOfRange) ∨
    (0 ≤ ntpSeconds hz now ∧ ntpSeconds hz now ≤ 0xFFFFFFFF ∧
      tsEnc hz now = .ok ⟨BitVec.ofNat 32 (ntpSeconds hz now).toNat, BitVec.ofNat 32 (ntpFraction hz now)⟩) := by
  unfold tsEnc maxSeconds
  split
  · next h => exact .inl ⟨by simpa using h, rfl⟩
  · next h =>
    simp only [not_or, not_lt] at h
    exact .inr ⟨h.1, by simpa using h.2, rfl⟩

/-- BUILD_RESP: the clock's error, or the response (R157, R161). -/
theorem buildRespResult_cases (cfg : Config) (req : List Byte) (now : BitVec 64) :
    (tsEnc cfg.tickHz.hz (nowTicks now) = .error .clockOutOfRange ∧
      buildRespResult cfg req now = raise .clockOutOfRange) ∨
    (∃ ts, tsEnc cfg.tickHz.hz (nowTicks now) = .ok ts ∧
      buildRespResult cfg req now = respondOk (ntpResponse cfg req ts)) := by
  rcases tsEnc_cases cfg.tickHz.hz (nowTicks now) with ⟨_, h⟩ | ⟨_, _, h⟩
  · exact .inl ⟨h, by simp [buildRespResult, h]⟩
  · exact .inr ⟨_, h, buildRespResult_of_ok cfg req now _ h⟩

end Sys2Proof.Machine
end

