-- ==== Sys2Proof/Laws/Step.lean ====
section
/-! SUPPORT. What each turn can do, said once. -/

namespace Sys2Proof.Machine

/-- The result each command computes, from the configuration and its operands alone (R25). -/
def instrResult (cfg : Config) : Instr → Result
  | .buildIpA a b => respondOk (ipv4Header cfg a b)
  | .buildIpS sl st dl dt => buildIpSResult cfg sl st dl dt
  | .buildUdp sp dp len => buildUdpResult sp dp len
  | .parseReq rx d => parseReqResult rx d
  | .buildResp q now => buildRespResult cfg q now

/-- Every command ends in the delivery of its result (R203). -/
theorem exec_eq_deliver (i : Instr) (s : State) : exec i s = deliver (instrResult s.config i) s := by
  cases i <;> rfl

/-- The result Perform delivers for a frame (R70). -/
def frameResult (cfg : Config) (c : Frame) : Result :=
  match decode c with
  | .ok i => instrResult cfg i
  | .error _ => raise .illegalCommand

/-- Perform ends in the delivery of the frame's result (R24, R70). -/
theorem perform_eq_deliver (c : Frame) (s : State) : perform c s = deliver (frameResult s.config c) s := by
  rcases h : decode c with e | i
  · simp [perform, frameResult, h]
  · simp [perform, frameResult, h, exec_eq_deliver]

/-- The response of `responseTo` is the frame's result in response form (R25, R66). -/
theorem responseTo_eq (cfg : Config) (c : Frame) : responseTo cfg c = responseFrame (frameResult cfg c) := by
  simp [responseTo, perform_eq_deliver, deliver, Phase.response]

/-- A host step changes the phase at most, and only to Busy (R24). -/
theorem takeHostStep_cases (h : HostStep) (s : State) :
    takeHostStep h s = s ∨ ∃ c, hostStepFrame s.received h = some c ∧ takeHostStep h s = issueFrame c s := by
  unfold takeHostStep
  split
  · next c hc => exact .inr ⟨c, hc, rfl⟩
  · exact .inl rfl

/-- All that the Issue turn can do (R24). -/
theorem issueTurn_cases (s : State) :
    (s.phase = .idle ∧ ∃ h rest, s.program = h :: rest ∧ issueTurn s = takeHostStep h { s with program := rest }) ∨
    ((s.phase ≠ .idle ∨ s.program = []) ∧ issueTurn s = s) := by
  rcases hp : s.phase with _ | c | r <;> rcases hq : s.program with _ | ⟨h, rest⟩ <;> simp [issueTurn, hp, hq]

/-- All that the Perform turn can do (R24). -/
theorem performTurn_cases (s : State) :
    (∃ c, s.phase = .busy c ∧ performTurn s = deliver (frameResult s.config c) s) ∨
    ((∀ c, s.phase ≠ .busy c) ∧ performTurn s = .next s) := by
  rcases hp : s.phase with _ | c | r <;> simp [performTurn, hp, perform_eq_deliver]

/-- All that the Collect turn can do (R24). -/
theorem collectTurn_cases (s : State) :
    (∃ r, s.phase = .done r ∧ collectTurn s = collectResponse r s) ∨
    ((∀ r, s.phase ≠ .done r) ∧ collectTurn s = s) := by
  rcases hp : s.phase with _ | c | r <;> simp [collectTurn, hp]

/-- A step is the head turn of the schedule, or the default turn of an empty one. -/
theorem step_eq_takeTurn (s : State) :
    step s = takeTurn (s.schedule.headD (defaultTurn s.phase)) { s with schedule := s.schedule.tail } := by
  rcases s with ⟨cfg, phase, program, received, awaiting, _ | ⟨t, rest⟩⟩ <;> rfl

end Sys2Proof.Machine
end

