-- ==== Sys2Proof/Laws/Run.lean ====
section
/-! SUPPORT. Runs of the machine, one step at a time. -/

namespace Sys2Proof.Machine

/-- A run of any machine begins with its step. -/
theorem run_succ_of_core (M : Host.Core) (k : Nat) (s t : M.State) (h : M.step s = .next t) :
    M.run (k + 1) s = M.run k t := by
  simp [Host.Core.run, h]

theorem run_zero (s : State) : core.run 0 s = .next s := rfl

theorem run_succ (k : Nat) (s t : State) (h : step s = .next t) : core.run (k + 1) s = core.run k t :=
  run_succ_of_core core k s t h

/-- A run of no step stays where it is. -/
theorem eq_of_run_zero (s t : State) (h : core.run 0 s = .next t) : t = s := by
  cases h
  rfl

end Sys2Proof.Machine
end

