-- ==== Sys2Proof/Machine/Assembler.lean ====
section
/-! DEFINITION. The test syntax of R73 and R74 as text: one line of ASCII bytes to the host's assembler lines. Host notation,
not semantics (D30): no turn of the machine reads text. What R73 leaves open of the lexing is fixed here (log 16). -/

namespace Sys2Proof.Machine

/-- Characters as ASCII bytes. -/
def ascii (cs : List Char) : List Byte := cs.map (fun c => BitVec.ofNat 8 c.toNat)

def space : Byte := 0x20
def comma : Byte := 0x2C
def quote : Byte := 0x22
def minus : Byte := 0x2D

/-- Drop the spaces at both ends. -/
def trim (t : List Byte) : List Byte :=
  ((t.dropWhile (· == space)).reverse.dropWhile (· == space)).reverse

/-- Split at a separator, but not inside quotes. -/
def splitOutsideQuotes (sep : Byte) : Bool → List Byte → List (List Byte)
  | _, [] => [[]]
  | inside, b :: rest =>
    if b = sep ∧ inside = false then [] :: splitOutsideQuotes sep false rest
    else match splitOutsideQuotes sep (if b = quote then !inside else inside) rest with
      | [] => [[b]]
      | p :: ps => (b :: p) :: ps

/-- The mnemonic of a line, and its operands between commas (R73).
DESIGN CHOICE (log 16): R73's listing has a `; …` remark after three line forms and does not say whether a program's line may
carry one. It may not here: the tail stays part of the operands, so such a line is no command. The mnemonic is in capitals, and
the space is the only blank. -/
def splitLine (line : List Byte) : List Byte × List (List Byte) :=
  let t := trim line
  (t.takeWhile (· != space), (splitOutsideQuotes comma false (t.dropWhile (· != space))).map trim)

/-- An unsigned decimal number. DESIGN CHOICE (log 16): R73 says nothing of leading zeros or a sign; leading zeros are read
(010 is 10), a sign is not. -/
def readDecimal (t : List Byte) : Option Nat :=
  if t ≠ [] ∧ t.all isDigit then some (decimalValue t) else none

/-- A hex digit, in either case (DESIGN CHOICE, log 16). -/
def hexDigit (b : Byte) : Option Nat :=
  if isDigit b then some (b.toNat - 0x30)
  else if 0x41 ≤ b.toNat ∧ b.toNat ≤ 0x46 then some (b.toNat - 0x37)
  else if 0x61 ≤ b.toNat ∧ b.toNat ≤ 0x66 then some (b.toNat - 0x57)
  else none

/-- Hex digits, read from the left onto `acc`. -/
def readHexOnto (acc : Nat) : List Byte → Option Nat
  | [] => some acc
  | b :: rest =>
    match hexDigit b with
    | some d => readHexOnto (acc * 16 + d) rest
    | none => none

/-- "decimal or 0x-hex, each 32 bits" (R73). DESIGN CHOICE (log 16): the prefix is `0x` and not `0X`, and a number that does not
fit is no operand. -/
def readNumber32 (t : List Byte) : Option (BitVec 32) :=
  let value :=
    if t.take 2 = ascii ['0', 'x'] ∧ t.drop 2 ≠ [] then readHexOnto 0 (t.drop 2) else readDecimal t
  match value with
  | some v => if v < 2 ^ 32 then some (BitVec.ofNat 32 v) else none
  | none => none

/-- `rx_len`: a number of 16 bits (R64). DESIGN CHOICE (log 16): R73 gives it no base; it is decimal, and a number that does
not fit is no operand. -/
def readRxLen (t : List Byte) : Option (BitVec 16) :=
  match readDecimal t with
  | some v => if v < 2 ^ 16 then some (BitVec.ofNat 16 v) else none
  | none => none

/-- `<d>.<d>.<d>.<d>` of BUILD_IP_A (R73): four components of at most 255. DESIGN CHOICE (log 16): R73 does not say how a
`<d>` is written; it is decimal, and leading zeros are read (010.0.0.1 is 10.0.0.1). The strict grammar of R110, which
`parseIpv4` follows and which refuses a leading zero, is for the text that BUILD_IP_S carries, not for this notation. -/
def readAddress (t : List Byte) : Option Ipv4Addr :=
  match (splitAtDots t).map readDecimal with
  | [some a, some b, some c, some d] =>
    if a ≤ 255 ∧ b ≤ 255 ∧ c ≤ 255 ∧ d ≤ 255 then
      some ⟨BitVec.ofNat 8 a, BitVec.ofNat 8 b, BitVec.ofNat 8 c, BitVec.ofNat 8 d⟩
    else none
  | _ => none

/-- `"<text>"`: the bytes between two quotes. DESIGN CHOICE (log 16): a text holds no quote, and there is no escape for one. -/
def readText (t : List Byte) : Option (List Byte) :=
  match t with
  | [] => none
  | q :: rest =>
    if q = quote ∧ rest.getLast? = some quote ∧ ¬ rest.dropLast.contains quote then some rest.dropLast else none

/-- One byte written as two hex digits (DESIGN CHOICE, log 16). -/
def readHexByte (t : List Byte) : Option Byte :=
  if t.length = 2 then (readHexOnto 0 t).map (BitVec.ofNat 8) else none

/-- Hex bytes between spaces, none at all included (DESIGN CHOICE, log 16). -/
def readHexBytes (t : List Byte) : Option (List Byte) :=
  let parts := (splitOutsideQuotes space false t).filter (· ≠ [])
  if parts.all (fun p => (readHexByte p).isSome) then some (parts.filterMap readHexByte) else none

/-- "now in ticks, signed decimal" (R73). DESIGN CHOICE (log 16): R73 does not say whether a leading `+` is part of it; it is not, so
a number has `-` or no sign, and `+5` is no operand. A number that does not fit 64 signed bits is no operand. -/
def readNow (t : List Byte) : Option Int :=
  let value : Option Int :=
    match t with
    | [] => none
    | b :: rest => if b = minus then (readDecimal rest).map (fun v => -(v : Int)) else (readDecimal t).map (fun v => (v : Int))
  match value with
  | some v => if -(2 ^ 63) ≤ v ∧ v < 2 ^ 63 then some v else none
  | none => none

/-- `Qn` (R73), `n` an unsigned decimal number (DESIGN CHOICE, log 16). -/
def readResultName (t : List Byte) : Option Nat :=
  match t with
  | [] => none
  | b :: rest => if b = 0x51 then readDecimal rest else none

/-- One line of the test syntax: the assembler lines it stands for, a pseudo-instruction expanded (R73, R74). `n` is the number
the response to this line's first command has in the program (for the Q1 of NTP_REPLY). -/
def readLine (n : Nat) (line : List Byte) : Option (List AsmLine) :=
  let (mnemonic, operands) := splitLine line
  match operands with
  | [x, y] =>
    if mnemonic = ascii ['B', 'U', 'I', 'L', 'D', '_', 'I', 'P', '_', 'A'] then
      match readAddress x, readAddress y with
      | some a, some b => some [.buildIpA a b]
      | _, _ => none
    else if mnemonic = ascii ['B', 'U', 'I', 'L', 'D', '_', 'I', 'P', '_', 'S'] then
      match readText x, readText y with
      | some a, some b => some [.buildIpS a b]
      | _, _ => none
    else if mnemonic = ascii ['P', 'A', 'R', 'S', 'E', '_', 'R', 'E', 'Q'] then
      match readRxLen x, readHexBytes y with
      | some rx, some b => some [.parseReq rx b]
      | _, _ => none
    else if mnemonic = ascii ['B', 'U', 'I', 'L', 'D', '_', 'R', 'E', 'S', 'P'] then
      match readResultName x, readHexBytes x, readNow y with
      | some k, _, some now => some [.buildRespQ k now]
      | none, some b, some now => some [.buildResp b now]
      | _, _, _ => none
    else none
  | [x, y, z] =>
    if mnemonic = ascii ['B', 'U', 'I', 'L', 'D', '_', 'U', 'D', 'P'] then
      match readNumber32 x, readNumber32 y, readNumber32 z with
      | some sp, some dp, some len => some [.buildUdp sp dp len]
      | _, _, _ => none
    else if mnemonic = ascii ['N', 'T', 'P', '_', 'R', 'E', 'P', 'L', 'Y'] then
      match readRxLen x, readHexBytes y, readNow z with
      | some rx, some b, some now => some (ntpReply n rx b now)
      | _, _, _ => none
    else none
  | [x, y, z, v, w] =>
    if mnemonic = ascii ['U', 'D', 'P', '_', 'H', 'D', 'R', 'S'] then
      match readText x, readText y, readNumber32 z, readNumber32 v, readNumber32 w with
      | some a, some b, some sp, some dp, some len => some (udpHdrs a b sp dp len)
      | _, _, _, _, _ => none
    else none
  | _ => none

end Sys2Proof.Machine
end

