-- ==== Sys2Proof/Tests/Slice0.lean ====
section
/-! SUPPORT. The model's own tests. Expected bytes are the vectors of spec/95_test_vectors.md (its ids stand in the comments)
or frames written out from spec/30_encoding.md; the witnesses show that each statement's hypotheses can be met. -/

namespace Sys2Proof.Tests

open Sys2Proof Sys2Proof.Machine

/-- The vectors' test configuration (spec/95): `IP_ID` 0x1234, `REFID` "TEST", `TICK_HZ` 10^6. -/
def testConfig : Config := ⟨0x1234, ⟨0x54, 0x45, 0x53, 0x54⟩, TickRate.default⟩

def testState : State := State.resetWith testConfig

/-- The test configuration at another tick rate. -/
def stateAt (hz : Nat) (h : minTickHz ≤ hz) : State := State.resetWith ⟨0x1234, ⟨0x54, 0x45, 0x53, 0x54⟩, ⟨hz, h⟩⟩

/-- The next state of an outcome, if there is one. -/
def nextOf (o : Host.Outcome State Fault Refusal) : Option State :=
  match o with
  | .next s => some s
  | _ => none

/-- The response pending after Perform on a frame. -/
def respondTo (c : Frame) : Option Phase := (nextOf (perform c testState)).map State.phase

/-- The 48 request bytes REQ of spec/95 section 2.4. -/
def reqBytes : List Byte := 0x1B :: List.replicate 39 0x00 ++ [0x00, 0x00, 0x00, 0x00, 0xDE, 0xAD, 0xBE, 0xEF]

/-- The IPv4 header of V-IPA-1. -/
def headerBytes : List Byte :=
  [0x45, 0x00, 0x00, 0x00, 0x12, 0x34, 0x00, 0x00, 0xFF, 0x11, 0x00, 0x00, 0x0A, 0x00, 0x00, 0x01, 0x0A, 0x00, 0x00, 0x02]

/-- "10.0.0.1" in ASCII. -/
def textSrc : List Byte := [0x31, 0x30, 0x2E, 0x30, 0x2E, 0x30, 0x2E, 0x31]
/-- "10.0.0.2" in ASCII. -/
def textDst : List Byte := [0x31, 0x30, 0x2E, 0x30, 0x2E, 0x30, 0x2E, 0x32]

/-! Well-formedness: one ill-formed term for each check. -/

theorem test_wf_refuses_short_src_text : (Instr.buildIpS 8 textSrc 8 (padZero 15 textDst)).wellFormed = false := by decide
theorem test_wf_refuses_long_dst_text :
    (Instr.buildIpS 8 (padZero 15 textSrc) 8 (List.replicate 16 0x30)).wellFormed = false := by decide
theorem test_wf_refuses_short_data : (Instr.parseReq 48 (List.replicate 47 0x00)).wellFormed = false := by decide
theorem test_wf_refuses_long_req : (Instr.buildResp (List.replicate 49 0x00) 0).wellFormed = false := by decide

/-! Decoding: each constructor's frame written out from R61 to R65. -/

theorem test_decode_build_ip_a :
    decode [0x10, 0x0A, 0x00, 0x00, 0x01, 0x0A, 0x00, 0x00, 0x02] = .ok (.buildIpA ⟨10, 0, 0, 1⟩ ⟨10, 0, 0, 2⟩) := rfl
/-- The frame of V-IPS-1. -/
theorem test_decode_build_ip_s :
    decode [0x11, 0x08, 0x31, 0x30, 0x2E, 0x30, 0x2E, 0x30, 0x2E, 0x31, 0x00, 0x00, 0x00, 0x00, 0x00, 0x00, 0x00,
      0x08, 0x31, 0x30, 0x2E, 0x30, 0x2E, 0x30, 0x2E, 0x32, 0x00, 0x00, 0x00, 0x00, 0x00, 0x00, 0x00]
      = .ok (.buildIpS 8 (padZero 15 textSrc) 8 (padZero 15 textDst)) := rfl
/-- The frame of V-UDP-2. -/
theorem test_decode_build_udp :
    decode [0x12, 0x00, 0x00, 0x04, 0xD2, 0x00, 0x00, 0x00, 0x35, 0x00, 0x00, 0x00, 0x64] = .ok (.buildUdp 1234 53 100) := rfl
/-- The frame of program P2, command 1. -/
theorem test_decode_parse_req : decode ([0x20, 0x00, 0x30] ++ reqBytes) = .ok (.parseReq 48 reqBytes) := rfl
/-- The frame of program P2, command 2: the time is 1704067200123456. -/
theorem test_decode_build_resp :
    decode (0x21 :: reqBytes ++ [0x00, 0x06, 0x0D, 0xD7, 0x10, 0x23, 0x02, 0x40]) = .ok (.buildResp reqBytes 1704067200123456) :=
  rfl
/-- V-ILL-3, V-ILL-5 and the empty frame: rejected by name. -/
theorem test_decode_rejects_by_name :
    decode [] = .error .emptyFrame ∧ decode [0xFF, 0, 0, 0, 0, 0, 0, 0, 0] = .error (.unknownOpcode 0xFF) ∧
    decode [0x12, 0, 0, 0, 0, 0, 0, 0, 0x35, 0, 0, 0, 0x64, 0] = .error (.wrongLength .buildUdp 14) := ⟨rfl, rfl, rfl⟩
/-- A table word of 8 bits is the opcode with zero operand bytes; an unknown opcode is refused. -/
theorem test_decode_table_word :
    decodeTableWord 8 0x12 = some (.buildUdp 0 0 0) ∧ decodeTableWord 8 0x13 = none := ⟨rfl, rfl⟩

/-! Meanings, on the vectors of spec/95. -/

/-- V-IPA-1. -/
theorem test_build_ip_a :
    respondTo [0x10, 0x0A, 0x00, 0x00, 0x01, 0x0A, 0x00, 0x00, 0x02] = some (.done (0x00 :: 0x14 :: headerBytes)) := by decide
/-- V-IPS-13: bytes FF after the text are ignored. -/
theorem test_build_ip_s :
    respondTo (0x11 :: 0x08 :: textSrc ++ List.replicate 7 0xFF ++ 0x08 :: padZero 15 textDst)
      = some (.done (0x00 :: 0x14 :: headerBytes)) := by decide
/-- V-IPS-3, V-IPS-4, V-IPS-5, V-IPS-6, V-IPS-7, V-IPS-9: texts that do not parse. -/
theorem test_parse_ipv4_rejects :
    parseIpv4 [0x32, 0x35, 0x36, 0x2E, 0x30, 0x2E, 0x30, 0x2E, 0x31] = none ∧
    parseIpv4 [0x30, 0x31, 0x2E, 0x32, 0x2E, 0x33, 0x2E, 0x34] = none ∧
    parseIpv4 [0x31, 0x2E, 0x32, 0x2E, 0x33] = none ∧
    parseIpv4 [0x31, 0x2E, 0x32, 0x2E, 0x33, 0x2E, 0x34, 0x2E] = none ∧
    parseIpv4 [0x20, 0x31, 0x2E, 0x32, 0x2E, 0x33, 0x2E, 0x34] = none ∧
    parseIpv4 [0x31, 0x2E, 0x2E, 0x33, 0x2E, 0x34] = none := by decide
/-- V-UDP-1 and V-UDP-4: the sentinel port, and the largest length. -/
theorem test_build_udp :
    respondTo [0x12, 0, 0, 0, 0, 0, 0, 0, 0x35, 0, 0, 0, 0x64] = some (.done [0x00, 0x08, 0x00, 0x35, 0x00, 0x35, 0x00, 0x6C, 0, 0]) ∧
    respondTo [0x12, 0, 0, 0, 0, 0, 0, 0, 0x35, 0, 0, 0xFF, 0xF7]
      = some (.done [0x00, 0x08, 0x00, 0x35, 0x00, 0x35, 0xFF, 0xFF, 0, 0]) := by decide
/-- V-UDP-5, V-UDP-8, V-UDP-11: the errors and their order. -/
theorem test_build_udp_errors :
    respondTo [0x12, 0, 0, 0, 0, 0, 0, 0, 0x35, 0, 0, 0xFF, 0xF8] = some (.done [0x04, 0x00]) ∧
    respondTo [0x12, 0, 1, 0, 0, 0, 0, 0, 0x35, 0, 0, 0, 1] = some (.done [0x02, 0x00]) ∧
    respondTo [0x12, 0, 0, 0, 0, 0, 0, 0, 0, 0, 0x01, 0x11, 0x70] = some (.done [0x02, 0x00]) := by decide
/-- V-PRQ-2 and V-PRQ-4. -/
theorem test_parse_req :
    respondTo ([0x20, 0xFF, 0xFF] ++ reqBytes) = some (.done (0x00 :: 0x30 :: reqBytes)) ∧
    respondTo ([0x20, 0x00, 0x2F] ++ reqBytes) = some (.done [0x03, 0x00]) := by decide
/-- V-BRS-2. -/
theorem test_build_resp :
    respondTo (0x21 :: reqBytes ++ [0x00, 0x06, 0x0D, 0xD7, 0x10, 0x23, 0x02, 0x40]) = some (.done
      [0x00, 0x30, 0x24, 0x01, 0x03, 0xE9, 0x00, 0x00, 0x00, 0x00, 0x00, 0x00, 0x00, 0x00, 0x54, 0x45, 0x53, 0x54, 0xE9, 0x3C,
       0x7F, 0x00, 0x00, 0x00, 0x00, 0x00, 0x00, 0x00, 0x00, 0x00, 0xDE, 0xAD, 0xBE, 0xEF, 0xE9, 0x3C, 0x7F, 0x00, 0x1F, 0x9A,
       0xCF, 0xFA, 0xE9, 0x3C, 0x7F, 0x00, 0x1F, 0x9A, 0xCF, 0xFA]) := by decide +kernel
/-- V-BRS-3. -/
theorem test_build_resp_out_of_range :
    respondTo (0x21 :: reqBytes ++ [0x00, 0x07, 0x69, 0x2F, 0xB7, 0x43, 0x60, 0x00]) = some (.done [0x05, 0x00]) := by decide
/-- V-TS-3, V-TS-10, V-TS-11, V-TS-12, V-TS-13: negative time and both bounds. -/
theorem test_ts_enc_bounds :
    tsEnc 1000000 (-1) = .ok ⟨0x83AA7E7F, 0xFFFFEF39⟩ ∧ tsEnc 1000000 (-2208988800000000) = .ok ⟨0, 0⟩ ∧
    tsEnc 1000000 (-2208988800000001) = .error .clockOutOfRange ∧
    tsEnc 1000000 2085978495999999 = .ok ⟨0xFFFFFFFF, 0xFFFFEF39⟩ ∧
    tsEnc 1000000 2085978496000000 = .error .clockOutOfRange := ⟨rfl, rfl, rfl, rfl, rfl⟩
/-- V-TS-14, V-TS-16, V-TS-17, V-TS-18, V-TS-19: carries and ties. -/
theorem test_ts_enc_ties :
    tsEnc 17179869184 17179869183 = .ok ⟨0x83AA7E81, 0⟩ ∧ tsEnc 8589934592 8589934591 = .ok ⟨0x83AA7E81, 0⟩ ∧
    tsEnc 8589934592 1 = .ok ⟨0x83AA7E80, 0⟩ ∧ tsEnc 8589934592 3 = .ok ⟨0x83AA7E80, 2⟩ ∧
    tsEnc 8589934592 5 = .ok ⟨0x83AA7E80, 2⟩ := ⟨rfl, rfl, rfl, rfl, rfl⟩
/-- V-ILL-1, V-ILL-4. -/
theorem test_illegal_frames :
    respondTo [] = some (.done [0x7F, 0x00]) ∧ respondTo (0x13 :: List.replicate 12 0x00) = some (.done [0x7F, 0x00]) := by
  decide
/-- The record of V-PRQ-1: LI 0, VN 3, Mode 3, `xmt_ts` 0x00000000DEADBEEF. -/
theorem test_ntp_record :
    (NtpPacket.ofBytes reqBytes).li = 0 ∧ (NtpPacket.ofBytes reqBytes).vn = 3 ∧ (NtpPacket.ofBytes reqBytes).mode = 3 ∧
    (NtpPacket.ofBytes reqBytes).xmtTs = 0x00000000DEADBEEF := by decide
/-- Program P4: a reset between Issue and Perform drops the command. -/
theorem test_reset_drops_command :
    (nextOf (step (Phase.busy [0x10] |> fun p => { testState with phase := p, schedule := [.reset] }))).map State.phase
      = some .idle := by decide
/-- A host that would issue in Done is held and keeps its step (R24). -/
theorem test_early_issue_is_held :
    nextOf (step { testState with phase := .done [0x7F, 0x00], program := [.issue [0x00]], schedule := [.issue] })
      = some { testState with phase := .done [0x7F, 0x00], program := [.issue [0x00]] } := by decide
/-- A table word runs as the first command after reset: BUILD_IP_S with empty texts is answered InvalidAddress. -/
theorem test_fetch_word_runs : (nextOf (step (testState.withFetchWord 8 0x11))).map State.phase = some (.done [0x01, 0x00]) := by
  decide
/-- R73's padding: the assembled line is V-IPS-1's frame. -/
theorem test_assemble_line :
    assembleLine (.buildIpS textSrc textDst)
      = some (.issue (0x11 :: 0x08 :: textSrc ++ List.replicate 7 0x00 ++ 0x08 :: textDst ++ List.replicate 7 0x00)) := by decide

/-- The lines of programs P1 and P3 as text (R73, R74). -/
theorem test_read_line :
    readLine 1 (ascii ['B','U','I','L','D','_','U','D','P',' ',' ','0',',',' ','0','x','3','5',',',' ','1','0','0'])
      = some [.buildUdp 0 53 100] ∧
    readLine 1 (ascii ['N','T','P','_','R','E','P','L','Y',' ','4','8',',',' ','1','B',' ','0','0',',',' ','-','1'])
      = some [.parseReq 48 [0x1B, 0x00], .buildRespQ 1 (-1)] ∧
    readLine 1 (ascii ['B','U','I','L','D','_','R','E','S','P',' ','Q','3',',',' ','0']) = some [.buildRespQ 3 0] ∧
    readLine 1 (ascii ['B','U','I','L','D','_','U','D','P',' ','0',',',' ','5','3']) = none := by decide +kernel
/-- BUILD_IP_S "10.0.0.1", "1,2" as text: a comma inside quotes is text. -/
theorem test_read_quoted :
    readLine 1 (ascii ['B','U','I','L','D','_','I','P','_','S',' '] ++ quote :: textSrc ++ [quote, comma, space, quote, 0x31, comma,
      0x32, quote]) = some [.buildIpS textSrc [0x31, comma, 0x32]] := by decide +kernel

/-! Witnesses: a concrete state and operands that meet all the hypotheses of a statement together. -/

theorem wit_reset_turn : ∃ (s : State) (turns : List Turn), s.schedule = .reset :: turns :=
  ⟨{ testState with schedule := [.reset] }, [], rfl⟩
theorem wit_same_ip_id : ∃ s s' : State, s.config.ipId = s'.config.ipId ∧ s ≠ s' :=
  ⟨testState, { testState with phase := .busy [] }, rfl, by decide⟩
theorem wit_two_texts : (8 : Byte).toNat ≤ 15 ∧ (15 : Byte).toNat ≤ 15 ∧
    parseIpv4 ((padZero 15 textSrc).take (8 : Byte).toNat) = some ⟨10, 0, 0, 1⟩ ∧
    parseIpv4 ((dottedQuad ⟨255, 255, 255, 255⟩).take (15 : Byte).toNat) = some ⟨255, 255, 255, 255⟩ := by decide
theorem wit_udp_operands : (65535 : BitVec 32).toNat ≤ 0xFFFF ∧ 1 ≤ (65535 : BitVec 32).toNat ∧ (65527 : BitVec 32).toNat ≤ 65527 := by
  decide
theorem wit_udp_sentinel : (0 : BitVec 32).toNat ≤ 0xFFFF ∧ 1 ≤ (1 : BitVec 32).toNat ∧ (1 : BitVec 32).toNat ≤ 0xFFFF := by decide
theorem wit_parse_req : reqBytes.length = 48 ∧ 48 ≤ (48 : BitVec 16).toNat := by decide
theorem wit_build_resp : reqBytes.length = 48 ∧
    tsEnc testState.config.tickHz.hz (2085978495999999 : BitVec 64).toInt = .ok ⟨0xFFFFFFFF, 0xFFFFEF39⟩ := ⟨by decide, rfl⟩
/-- Both clauses at their boundary: the last time admitted, and the next one. -/
theorem wit_admitted_times : reqBytes.length = 48 ∧ testState.config.tickHz.hz = 1000000 ∧
    (-2208988800000000 ≤ (2085978495999999 : BitVec 64).toInt ∧ (2085978495999999 : BitVec 64).toInt ≤ 2085978495999999) ∧
    ¬(-2208988800000000 ≤ (2085978496000000 : BitVec 64).toInt ∧ (2085978496000000 : BitVec 64).toInt ≤ 2085978495999999) := by
  decide
theorem wit_carry : 0 < 8589934592 ∧ roundHalfEven (4294967296 * ((8589934591 : Int) % (8589934592 : Nat)).toNat) 8589934592 = 4294967296 ∧
    tsEnc 8589934592 8589934591 = .ok ⟨0x83AA7E81, 0⟩ := ⟨by decide, rfl, rfl⟩
theorem wit_monotone : 0 < 1000000 ∧ (0 : Int) < 1 ∧ tsEnc 1000000 0 = .ok ⟨0x83AA7E80, 0⟩ ∧ tsEnc 1000000 1 = .ok ⟨0x83AA7E80, 0x10C7⟩ :=
  ⟨by decide, by decide, rfl, rfl⟩
/-- Both sides of the carry condition: `TICK_HZ` = 2^33, and the default. -/
theorem wit_carry_rate : 1000000 ≤ 8589934592 ∧ 8589934592 ≤ 8589934592 ∧ 1000000 ≤ 1000000 ∧ ¬ 8589934592 ≤ 1000000 := by decide
theorem wit_ntp_reply : ∃ s : State, s.phase = .idle ∧ s.schedule = [] ∧
    s.program = (ntpReply (s.received.length + 1) 48 reqBytes 1500000).filterMap assembleLine ∧
    tsEnc s.config.tickHz.hz 1500000 = .ok ⟨0x83AA7E81, 0x80000000⟩ ∧ s.program.length = 2 ∧ reqBytes.length = 48 ∧
    48 ≤ (48 : BitVec 16).toNat ∧ -(2 ^ 63) ≤ (1500000 : Int) ∧ (1500000 : Int) < 2 ^ 63 :=
  ⟨{ testState with program := (ntpReply 1 48 reqBytes 1500000).filterMap assembleLine }, rfl, rfl, rfl, rfl, rfl,
    by decide, by decide, by decide, by decide⟩
theorem wit_ntp_reply_malformed : ∃ s : State, s.phase = .idle ∧ s.schedule = [] ∧ ([] : List Byte).length ≤ 48 ∧ (47 : BitVec 16).toNat < 48 ∧
    s.program = (ntpReply (s.received.length + 1) 47 [] 0).filterMap assembleLine ∧ s.program.length = 2 :=
  ⟨{ testState with program := (ntpReply 1 47 [] 0).filterMap assembleLine }, rfl, rfl, by decide, by decide, rfl, rfl⟩
/-- Two different frames that agree outside the ignored bytes: byte 1 of F_BRS. -/
theorem wit_ignored_bytes : ∃ c₁ c₂ : Frame, c₁ ≠ c₂ ∧ c₁.length = c₂.length ∧ (∀ i, ignoredByte c₁ i = false → c₁[i]? = c₂[i]?) :=
  ⟨0x21 :: 0x00 :: List.replicate 55 0x00, 0x21 :: 0xFF :: List.replicate 55 0x00, by decide, by decide, fun i h => by
    match i with
    | 0 => rfl
    | 1 => exact absurd h (by decide)
    | n + 2 => rfl⟩
theorem wit_same_transmit : (List.replicate 48 0x00 : List Byte) ≠ 0xFF :: List.replicate 47 0x00 ∧
    (List.replicate 48 (0x00 : Byte)).drop 40 = (0xFF :: List.replicate 47 0x00).drop 40 := by decide
theorem wit_well_formed : (Instr.buildResp reqBytes 0).wellFormed = true := by decide
theorem wit_busy_state : ∃ (s : State) (c : Frame), s.phase = .busy c ∧ s.schedule.head? = some .perform ∧
    decode c = .ok (.buildUdp 0 0 0) :=
  ⟨{ testState with phase := .busy (0x12 :: List.replicate 12 0x00), schedule := [.perform] }, _, rfl, rfl, rfl⟩
theorem wit_busy_illegal : ∃ (s : State) (c : Frame), s.phase = .busy c ∧ s.schedule = [] ∧ decode c = .error .emptyFrame :=
  ⟨{ testState with phase := .busy [] }, _, rfl, rfl, rfl⟩
theorem wit_issue_turn : ∃ (s : State) (c : Frame), s.phase = .idle ∧ s.program = .issue c :: [] ∧ s.schedule = .issue :: [] :=
  ⟨{ testState with program := [.issue [0x00]], schedule := [.issue] }, _, rfl, rfl, rfl⟩
theorem wit_held_issue_turn : ∃ s : State, s.phase ≠ .idle ∧ s.schedule = .issue :: [] :=
  ⟨{ testState with phase := .busy [], schedule := [.issue] }, by decide, rfl⟩
theorem wit_collect_turn : ∃ (s : State) (r : Frame), s.phase = .done r ∧ s.schedule = .collect :: [] :=
  ⟨{ testState with phase := .done [0x7F, 0x00], schedule := [.collect] }, _, rfl, rfl⟩
theorem wit_collect_not_enabled : ∃ s : State, (∀ r, s.phase ≠ .done r) ∧ s.schedule = .collect :: [] :=
  ⟨{ testState with schedule := [.collect] }, (by intro r h; cases h), rfl⟩
theorem wit_step_legal : ∃ s s' : State, s.responsesLegal = true ∧ step s = .next s' ∧ s'.received = [[0x7F, 0x00]] :=
  ⟨{ testState with phase := .done [0x7F, 0x00] }, _, by decide, rfl, rfl⟩
theorem wit_run : ∃ s' : State, core.run 1 testState = .next s' := ⟨testState, rfl⟩
theorem wit_issue_all : ∃ (cs : List Frame) (s : State), s.phase = .idle ∧ s.schedule = [] ∧ s.program = cs.map .issue ∧ cs.length = 2 :=
  ⟨[[0x00], []], { testState with program := [.issue [0x00], .issue []] }, rfl, rfl, rfl, rfl⟩
theorem wit_finished : testState.runFinished = true ∧ testState.schedule = [] := by decide
/-- The run P4 would be without its second Issue: dropped by a reset, so not finished (R239). -/
theorem test_dropped_run_is_not_finished :
    (nextOf (step (issueFrame [0x00] { testState with schedule := [.reset] }))).map State.runFinished = some false := by decide
theorem wit_reset_of_pending : ∃ s s' : State, s.pendingIsAwaited = true ∧ s.phase ≠ .idle ∧ s.schedule = .reset :: [] ∧
    step s = .next s' := ⟨issueFrame [0x00] { testState with schedule := [.reset] }, _, by decide, by decide, rfl, rfl⟩
theorem wit_awaiting_ends : ∃ s s' : State, step s = .next s' ∧ s.awaiting = true ∧ s'.awaiting = false :=
  ⟨{ testState with phase := .done [0x7F, 0x00], awaiting := true }, _, rfl, rfl, rfl⟩
theorem wit_pending_awaited : ∃ s s' : State, s.pendingIsAwaited = true ∧ step s = .next s' ∧ s'.phase = .busy [0x00] :=
  ⟨{ testState with program := [.issue [0x00]] }, _, by decide, rfl, rfl⟩
theorem wit_instantiated : ∃ cfg, Config.instantiate 0x1234 0x7F 0x00 0x53 0x54 1000000 = some cfg := ⟨_, rfl⟩
theorem wit_success_response : (Instr.buildUdp 0 53 100).wellFormed = true ∧ ∃ s' : State, exec (.buildUdp 0 53 100) testState = .next s' ∧
    s'.phase = .done (0x00 :: 0x08 :: [0x00, 0x35, 0x00, 0x35, 0x00, 0x6C, 0x00, 0x00]) := ⟨rfl, _, rfl, by decide⟩
theorem wit_round_half_even : 0 < 2 ∧ roundHalfEven 5 2 = 2 ∧ roundHalfEven 3 2 = 2 := by decide

end Sys2Proof.Tests
end

