-- ==== Sys2Proof/Proofs/Instantiation.lean ====
section
/-! PROOF. Which configurations are instantiated, and what they hold (R232). -/

namespace Sys2Proof

@[simp] theorem isAscii_iff (b : Byte) : isAscii b = true ↔ b.toNat < 0x80 := by
  simp [isAscii]

/-- The 7-bit `REFID` code of an ASCII byte loses nothing (R7). -/
theorem setWidth_code_of_isAscii {b : Byte} (hb : isAscii b = true) : (b.setWidth 7).setWidth 8 = b := by
  have hlt : b.toNat < 2 ^ 7 := (isAscii_iff b).mp hb
  apply BitVec.eq_of_toNat_eq
  rw [BitVec.toNat_setWidth, BitVec.toNat_setWidth, Nat.mod_eq_of_lt hlt, Nat.mod_eq_of_lt b.isLt]

/-- What `instantiate` can answer: it gives a configuration exactly on the checks of R232, and then only this one. -/
theorem instantiate_eq_some_iff {ipId : BitVec 16} {r0 r1 r2 r3 : Byte} {hz : Nat} {cfg : Config} :
    Config.instantiate ipId r0 r1 r2 r3 hz = some cfg ↔
      ∃ h : minTickHz ≤ hz, (isAscii r0 ∧ isAscii r1 ∧ isAscii r2 ∧ isAscii r3) ∧
        cfg = ⟨ipId, ⟨r0.setWidth 7, r1.setWidth 7, r2.setWidth 7, r3.setWidth 7⟩, ⟨hz, h⟩⟩ := by
  unfold Config.instantiate
  split
  case isTrue h =>
    simp only [Option.ite_none_right_eq_some, Bool.and_eq_true, and_assoc, Option.some.injEq, exists_prop_of_true h,
      eq_comm (a := cfg)]
  case isFalse h => simp [h]

/-- The checks of R232, as bounds on the values given. -/
theorem exists_instantiate_iff (ipId : BitVec 16) (r0 r1 r2 r3 : Byte) (hz : Nat) :
    (∃ cfg, Config.instantiate ipId r0 r1 r2 r3 hz = some cfg) ↔
      (r0.toNat < 0x80 ∧ r1.toNat < 0x80 ∧ r2.toNat < 0x80 ∧ r3.toNat < 0x80 ∧ 1000000 ≤ hz) := by
  simp only [instantiate_eq_some_iff, isAscii_iff]
  constructor
  · rintro ⟨_, hhz, ⟨h0, h1, h2, h3⟩, _⟩
    exact ⟨h0, h1, h2, h3, hhz⟩
  · rintro ⟨h0, h1, h2, h3, hhz⟩
    exact ⟨_, hhz, ⟨h0, h1, h2, h3⟩, rfl⟩

theorem instantiate_keeps_values {ipId : BitVec 16} {r0 r1 r2 r3 : Byte} {hz : Nat} {cfg : Config}
    (h : Config.instantiate ipId r0 r1 r2 r3 hz = some cfg) :
    cfg.ipId = ipId ∧ cfg.refId.bytes = [r0, r1, r2, r3] ∧ cfg.tickHz.hz = hz := by
  obtain ⟨_, ⟨h0, h1, h2, h3⟩, rfl⟩ := instantiate_eq_some_iff.mp h
  have hbytes : AsciiTag.bytes ⟨r0.setWidth 7, r1.setWidth 7, r2.setWidth 7, r3.setWidth 7⟩ = [r0, r1, r2, r3] := by
    rw [AsciiTag.bytes, setWidth_code_of_isAscii h0, setWidth_code_of_isAscii h1, setWidth_code_of_isAscii h2,
      setWidth_code_of_isAscii h3]
  exact ⟨rfl, hbytes, rfl⟩

/-- Settles O50: `instantiate` answers exactly on R232's checks, and an ASCII byte survives its 7-bit code. -/
theorem instantiateAdmitsExactly : Obligations.InstantiateAdmitsExactly := fun ipId r0 r1 r2 r3 hz =>
  ⟨exists_instantiate_iff ipId r0 r1 r2 r3 hz, fun _ => instantiate_keeps_values⟩

end Sys2Proof
end

section
/-! PROOF. The command port: what one step can do to the state (R24, R230), and what every step and every run keeps. -/

namespace Sys2Proof.Machine

/-- The moves of the port, by the turn that makes them (R24, R230). A turn that is not enabled makes the first (log 8). -/
inductive PortMove : Turn → State → State → Prop
  | nothing (t : Turn) (s : State) : PortMove t s s
  | skip {s : State} {h : HostStep} {rest : List HostStep} (hphase : s.phase = .idle) (hprogram : s.program = h :: rest)
      (hframe : hostStepFrame s.received h = none) : PortMove .issue s { s with program := rest }
  | issue {s : State} {h : HostStep} {rest : List HostStep} {c : Frame} (hphase : s.phase = .idle)
      (hprogram : s.program = h :: rest) (hframe : hostStepFrame s.received h = some c) :
      PortMove .issue s (issueFrame c { s with program := rest })
  | perform {s : State} {c : Frame} (hphase : s.phase = .busy c) :
      PortMove .perform s (s.answered (responseTo s.config c))
  | collect {s : State} {r : Frame} (hphase : s.phase = .done r) : PortMove .collect s (collectResponse r s)
  | reset (s : State) : PortMove .reset s (resetPort s)

/-! What each operation of the port answers, by the phase. -/

/-- Perform on any frame leaves its response and changes nothing but the phase (R25). -/
theorem perform_eq_answered (c : Frame) (s : State) : perform c s = .next (s.answered (responseTo s.config c)) := by
  rw [perform_eq_deliver, responseTo_eq, deliver]

theorem perform_of_decode_ok {c : Frame} {i : Instr} (h : decode c = .ok i) (s : State) : perform c s = exec i s := by
  simp [perform, h]

theorem responseTo_of_decode_ok {c : Frame} {i : Instr} (h : decode c = .ok i) (cfg : Config) :
    responseTo cfg c = responseFrame (instrResult cfg i) := by
  simp [responseTo_eq, frameResult, h]

theorem responseTo_of_not_decoded {c : Frame} (h : ∀ i, decode c ≠ .ok i) (cfg : Config) :
    responseTo cfg c = [0x7F, 0x00] := by
  rcases hc : decode c with e | i
  · simp [responseTo_eq, frameResult, hc, ErrorKind.code]
  · exact absurd hc (h i)

theorem takeHostStep_of_some {h : HostStep} {c : Frame} {s : State} (hframe : hostStepFrame s.received h = some c) :
    takeHostStep h s = issueFrame c s := by
  simp [takeHostStep, hframe]

theorem takeHostStep_of_none {h : HostStep} {s : State} (hframe : hostStepFrame s.received h = none) :
    takeHostStep h s = s := by
  simp [takeHostStep, hframe]

theorem issueTurn_of_idle {s : State} {h : HostStep} {rest : List HostStep} (hphase : s.phase = .idle)
    (hprogram : s.program = h :: rest) : issueTurn s = takeHostStep h { s with program := rest } := by
  simp [issueTurn, hphase, hprogram]

/-- A held host keeps its step (R24). -/
theorem issueTurn_of_not_idle {s : State} (hphase : s.phase ≠ .idle) : issueTurn s = s := by
  rcases issueTurn_cases s with ⟨hidle, -⟩ | ⟨-, heq⟩
  · exact absurd hidle hphase
  · exact heq

theorem performTurn_of_busy {s : State} {c : Frame} (hphase : s.phase = .busy c) : performTurn s = perform c s := by
  simp [performTurn, hphase]

theorem collectTurn_of_done {s : State} {r : Frame} (hphase : s.phase = .done r) :
    collectTurn s = collectResponse r s := by
  simp [collectTurn, hphase]

theorem collectTurn_of_not_done {s : State} (hphase : ∀ r, s.phase ≠ .done r) : collectTurn s = s := by
  rcases collectTurn_cases s with ⟨r, hdone, -⟩ | ⟨-, heq⟩
  · exact absurd hdone (hphase r)
  · exact heq

/-! Which turn a step takes. -/

theorem step_of_schedule_cons {s : State} {t : Turn} {turns : List Turn} (h : s.schedule = t :: turns) :
    step s = takeTurn t { s with schedule := turns } := by
  simp [step, h]

theorem step_of_schedule_nil {s : State} (h : s.schedule = []) : step s = takeTurn (defaultTurn s.phase) s := by
  simp [step, h]

/-- Perform's turn comes, with a frame held, when the schedule is empty or names it (log 7). -/
theorem step_of_perform_turn {s : State} {c : Frame} (hphase : s.phase = .busy c)
    (hturn : s.schedule = [] ∨ s.schedule.head? = some .perform) :
    step s = perform c { s with schedule := s.schedule.tail } := by
  have ht : s.schedule.headD (defaultTurn s.phase) = .perform := by
    rcases hturn with hnil | hhead
    · simp [hnil, hphase, defaultTurn]
    · simp [List.headD_eq_head?_getD, hhead]
  rw [step_eq_takeTurn, ht]
  exact performTurn_of_busy hphase

/-- A reset happens only where the schedule names it: it is no phase's default turn (R240; log 7). -/
theorem schedule_head_of_reset_turn {s : State} (h : s.schedule.headD (defaultTurn s.phase) = .reset) :
    s.schedule.head? = some .reset := by
  rcases hs : s.schedule with _ | ⟨t, turns⟩
  · rcases hp : s.phase with _ | c | r <;> simp [hs, hp, defaultTurn] at h
  · simpa [hs] using h

/-- Each turn makes one of the port's moves: "No other transition exists" (R24). -/
theorem portMove_of_takeTurn {t : Turn} {s s' : State} (h : takeTurn t s = .next s') : PortMove t s s' := by
  cases t with
  | issue =>
    obtain rfl : issueTurn s = s' := by simpa [takeTurn] using h
    rcases issueTurn_cases s with ⟨hphase, x, rest, hprogram, heq⟩ | ⟨-, heq⟩
    · rw [heq]
      rcases hframe : hostStepFrame s.received x with _ | c
      · rw [takeHostStep_of_none (s := { s with program := rest }) hframe]
        exact .skip hphase hprogram hframe
      · rw [takeHostStep_of_some (s := { s with program := rest }) hframe]
        exact .issue hphase hprogram hframe
    · rw [heq]
      exact .nothing _ _
  | perform =>
    rcases performTurn_cases s with ⟨c, hphase, -⟩ | ⟨-, heq⟩
    · rw [takeTurn, performTurn_of_busy hphase, perform_eq_answered] at h
      cases h
      exact .perform hphase
    · rw [takeTurn, heq] at h
      cases h
      exact .nothing _ _
  | collect =>
    obtain rfl : collectTurn s = s' := by simpa [takeTurn] using h
    rcases collectTurn_cases s with ⟨r, hphase, heq⟩ | ⟨-, heq⟩
    · rw [heq]
      exact .collect hphase
    · rw [heq]
      exact .nothing _ _
  | reset =>
    cases h
    exact .reset s

/-- All that a step can do: the schedule loses its head, and the port makes one move; a reset only where the schedule
names it (R24, R230). -/
theorem portMove_of_step {s s' : State} (h : step s = .next s') :
    ∃ t, PortMove t { s with schedule := s.schedule.tail } s' ∧ (t = .reset → s.schedule.head? = some .reset) :=
  ⟨_, portMove_of_takeTurn (step_eq_takeTurn s ▸ h), schedule_head_of_reset_turn⟩

/-! What a move of the port keeps. -/

theorem PortMove.config_eq {t : Turn} {s s' : State} (h : PortMove t s s') : s'.config = s.config := by
  cases h <;> rfl

theorem PortMove.schedule_eq {t : Turn} {s s' : State} (h : PortMove t s s') : s'.schedule = s.schedule := by
  cases h <;> rfl

theorem pendingIsAwaited_iff (s : State) : s.pendingIsAwaited = true ↔ s.phase = .idle ∨ s.awaiting = true := by
  simp [State.pendingIsAwaited]

/-- Issue sets the flag with the frame it captures; only the two moves that leave the port idle take a pending command or
response away (R24, R239). -/
theorem PortMove.keeps_pendingIsAwaited {t : Turn} {s s' : State} (hmove : PortMove t s s')
    (hs : s.pendingIsAwaited = true) : s'.pendingIsAwaited = true := by
  rw [pendingIsAwaited_iff] at hs ⊢
  cases hmove with
  | nothing => exact hs
  | skip => exact hs
  | issue => exact .inr rfl
  | perform hphase => exact .inr (by simpa [hphase] using hs)
  | collect => exact .inl rfl
  | reset => exact .inl rfl

/-- Only Collect clears the flag, and it takes the response pending (R239). -/
theorem PortMove.collects_of_awaiting_ends {t : Turn} {s s' : State} (hmove : PortMove t s s')
    (hs : s.awaiting = true) (hs' : s'.awaiting = false) :
    ∃ r, s.phase = .done r ∧ s' = collectResponse r s := by
  cases hmove with
  | collect hphase => exact ⟨_, hphase, rfl⟩
  | issue => cases hs'
  | nothing | skip | perform | reset => exact absurd (hs.symm.trans hs') (by decide)

/-! Runs. -/

theorem exists_step_of_run_succ {k : Nat} {s s' : State} (h : core.run (k + 1) s = .next s') :
    ∃ t, step s = .next t ∧ core.run k t = .next s' := by
  rcases hstep : step s with t | f | r
  · exact ⟨t, rfl, run_succ k s t hstep ▸ h⟩
  · cases f
  · simp [Host.Core.run, core, hstep] at h

/-- From an idle port, with no turn named, a host step that issues a frame takes three steps of the machine: Issue, Perform
and Collect (R24). -/
theorem run_issued_frame (k : Nat) {s : State} {h : HostStep} {rest : List HostStep} {c : Frame}
    (hphase : s.phase = .idle) (hschedule : s.schedule = []) (hprogram : s.program = h :: rest)
    (hframe : hostStepFrame s.received h = some c) :
    core.run (k + 3) s = core.run k
      { s with program := rest, received := s.received ++ [responseTo s.config c], awaiting := false } := by
  let issued := issueFrame c { s with program := rest }
  have hissue : step s = .next issued := by
    rw [step_of_schedule_nil hschedule, hphase, defaultTurn, takeTurn, issueTurn_of_idle hphase hprogram,
      takeHostStep_of_some (s := { s with program := rest }) hframe]
  have hperform : step issued = .next (issued.answered (responseTo s.config c)) :=
    (step_of_schedule_nil (s := issued) hschedule).trans (perform_eq_answered c issued)
  have hcollect : step (issued.answered (responseTo s.config c)) =
      .next (collectResponse (responseTo s.config c) (issued.answered (responseTo s.config c))) :=
    step_of_schedule_nil hschedule
  rw [run_succ _ _ _ hissue, run_succ _ _ _ hperform, run_succ _ _ _ hcollect]
  simp [issued, issueFrame, collectResponse, ← hphase]

/-! The statements. -/

/-- Settles O48: each of the port's moves keeps it. -/
theorem stepKeepsPendingAwaited : Obligations.StepKeepsPendingAwaited := by
  intro s s' hs hstep
  obtain ⟨t, hmove, -⟩ := portMove_of_step hstep
  exact hmove.keeps_pendingIsAwaited hs

/-- Settles O37: a step makes one of the port's moves after taking the schedule's head. -/
theorem stepTakesOnlyPortTransitions : Obligations.StepTakesOnlyPortTransitions := by
  intro s s' hstep
  obtain ⟨t, hmove, hreset⟩ := portMove_of_step hstep
  refine ⟨hmove.config_eq, hmove.schedule_eq, ?_⟩
  cases hmove with
  | skip hphase hprogram hframe => exact .inl ⟨hphase, rfl, _, hprogram, .inr ⟨hframe, hphase, rfl⟩⟩
  | issue hphase hprogram hframe => exact .inl ⟨hphase, rfl, _, hprogram, .inl ⟨_, hframe, rfl, rfl⟩⟩
  | perform hphase => exact .inr (.inl ⟨_, hphase, rfl, rfl, rfl, rfl⟩)
  | collect hphase => exact .inr (.inr (.inl ⟨_, hphase, rfl, rfl, rfl, rfl⟩))
  | reset => exact .inr (.inr (.inr (.inl ⟨hreset rfl, rfl, rfl, rfl, rfl⟩)))
  | nothing => exact .inr (.inr (.inr (.inr ⟨rfl, rfl, rfl, rfl⟩)))

/-- Settles O41, by induction on the length of the run. -/
theorem runKeepsConfiguration : Obligations.RunKeepsConfiguration := by
  intro k
  induction k with
  | zero =>
    intro s s' h
    rw [eq_of_run_zero s s' h]
  | succ k ih =>
    intro s s' h
    obtain ⟨t, hstep, hrun⟩ := exists_step_of_run_succ h
    obtain ⟨_, hmove, -⟩ := portMove_of_step hstep
    exact (ih t s' hrun).trans hmove.config_eq

/-- Settles O42: Perform delivers a result that the frame and the configuration alone determine. -/
theorem responseDependsOnlyOnFrameAndConfiguration : Obligations.ResponseDependsOnlyOnFrameAndConfiguration :=
  perform_eq_answered

/-- Settles O43, by induction on the frames: the first takes three steps and leaves an idle port. -/
theorem issuedFramesAnsweredInOrder : Obligations.IssuedFramesAnsweredInOrder := by
  intro cs
  induction cs with
  | nil =>
    intro s hphase hschedule hprogram
    have hempty : s.program = [] := hprogram
    simp [run_zero, ← hempty]
  | cons c cs ih =>
    intro s hphase hschedule hprogram
    calc core.run (3 * cs.length + 3) s
      _ = core.run (3 * cs.length) _ := run_issued_frame _ hphase hschedule hprogram rfl
      _ = .next _ := ih _ hphase hschedule rfl
      _ = _ := by simp

/-- Settles O47: of the port's moves only Collect clears the flag. -/
theorem awaitingEndsOnlyByCollect : Obligations.AwaitingEndsOnlyByCollect := by
  intro s s' hstep hs hs'
  obtain ⟨t, hmove, -⟩ := portMove_of_step hstep
  obtain ⟨r, hphase, rfl⟩ := hmove.collects_of_awaiting_ends hs hs'
  exact ⟨r, hphase, rfl, rfl⟩

/-- Settles O1, by the fields of the reset state. -/
theorem resetLeavesIdlePort : Obligations.ResetLeavesIdlePort :=
  ⟨fun cfg => ⟨resetWith_phase cfg, resetWith_config cfg⟩, resetWith_phase _⟩

/-- Settles O35: Perform's turn is `perform` on the frame held, which is `exec` on what it decodes to. -/
theorem stepPerformsDecodedCommand : Obligations.StepPerformsDecodedCommand := by
  intro s c hphase hturn
  rw [step_of_perform_turn hphase hturn]
  constructor
  · intro i hdecode
    exact perform_of_decode_ok hdecode _
  · intro hillegal
    rw [perform_eq_answered, responseTo_of_not_decoded hillegal]

/-- Settles O36: the turn the schedule names, by the phase that enables it or does not. -/
theorem issueAndCollectTurns : Obligations.IssueAndCollectTurns := by
  refine ⟨?issue, ?held, ?collect, ?nothingToCollect⟩
  case issue =>
    intro s c rest turns hphase hprogram hschedule
    rw [step_of_schedule_cons hschedule, takeTurn,
      issueTurn_of_idle (s := { s with schedule := turns }) hphase hprogram, takeHostStep_of_some rfl, issueFrame]
  case held =>
    intro s turns hphase hschedule
    rw [step_of_schedule_cons hschedule, takeTurn, issueTurn_of_not_idle (s := { s with schedule := turns }) hphase]
  case collect =>
    intro s r turns hphase hschedule
    rw [step_of_schedule_cons hschedule, takeTurn, collectTurn_of_done (s := { s with schedule := turns }) hphase,
      collectResponse]
  case nothingToCollect =>
    intro s turns hphase hschedule
    rw [step_of_schedule_cons hschedule, takeTurn, collectTurn_of_not_done (s := { s with schedule := turns }) hphase]

/-- Settles O40: nothing is pending and nothing has been received. -/
theorem resetResponsesLegal : Obligations.ResetResponsesLegal := rfl

/-- Settles O49: the port is idle. -/
theorem resetPendingAwaited : Obligations.ResetPendingAwaited :=
  (pendingIsAwaited_iff _).mpr (.inl (resetWith_phase _))

end Sys2Proof.Machine
end

section
/-! PROOF. NTP_REPLY from end to end (R74, R162): the two frames the host issues, how they decode, and their responses. -/

namespace Sys2Proof

/-- The slice that a middle part of a frame is, by its offset and its length. -/
theorem slice_append_of_length {pre mid post : List Byte} {i n : Nat} (hi : pre.length = i) (hn : mid.length = n) :
    slice (pre ++ mid ++ post) i n = mid := by
  simp [slice, ← hi, ← hn]

/-- The frame of PARSE_REQ is read back field by field: the length at offset 1, the data at offset 3 (R64). -/
theorem decode_encode_parseReq (rxLen : BitVec 16) {data : List Byte} (hdata : data.length = 48) :
    decode (encode (.parseReq rxLen data)) = .ok (.parseReq rxLen data) := by
  have hlen : slice (encode (.parseReq rxLen data)) 1 2 = be16 rxLen :=
    slice_append_of_length (pre := [0x20]) rfl (be16_length rxLen)
  have hbytes : slice (encode (.parseReq rxLen data)) 3 48 = data := by
    have := slice_append_of_length (pre := 0x20 :: be16 rxLen) (post := []) rfl hdata
    rwa [List.append_nil] at this
  calc decode (encode (.parseReq rxLen data))
    _ = .ok (Opcode.parseReq.assemble (encode (.parseReq rxLen data))) :=
      decode_of_shape .parseReq (be16 rxLen ++ data) (by simp [hdata, Opcode.frameLength])
    _ = _ := by simp [Opcode.assemble, memRead, hlen, hbytes]

/-- The frame of BUILD_RESP is read back field by field: the request at offset 1, the time at offset 49 (R65). -/
theorem decode_encode_buildResp {req : List Byte} (now : BitVec 64) (hreq : req.length = 48) :
    decode (encode (.buildResp req now)) = .ok (.buildResp req now) := by
  have himage : slice (encode (.buildResp req now)) 1 48 = req :=
    slice_append_of_length (pre := [0x21]) rfl hreq
  have htime : slice (encode (.buildResp req now)) 49 8 = be64 now := by
    have := slice_append_of_length (pre := 0x21 :: req) (post := []) (i := 49) (by simp [hreq]) (be64_length now)
    rwa [List.append_nil] at this
  calc decode (encode (.buildResp req now))
    _ = .ok (Opcode.buildResp.assemble (encode (.buildResp req now))) :=
      decode_of_shape .buildResp (req ++ be64 now) (by simp [hreq, Opcode.frameLength])
    _ = _ := by simp [Opcode.assemble, memRead, himage, htime]

end Sys2Proof

namespace Sys2Proof.Machine

/-- A time that fits 64 signed bits is the time the operand stands for (R65, R152). -/
theorem nowTicks_ofInt {now : Int} (hlo : -(2 ^ 63) ≤ now) (hhi : now < 2 ^ 63) : nowTicks (BitVec.ofInt 64 now) = now :=
  BitVec.toInt_ofInt_eq_self (by decide) hlo hhi

theorem padZero_of_length {b : List Byte} {n : Nat} (h : b.length = n) : padZero n b = b := by
  simp [padZero, h]

/-- NTP_REPLY on a whole packet is two host steps: its PARSE_REQ, and a reply to the result of that (R74). -/
theorem assemble_ntpReply (n : Nat) (rxLen : BitVec 16) {data : List Byte} (now : Int) (hdata : data.length = 48) :
    (ntpReply n rxLen data now).filterMap assembleLine =
      [.issue (encode (.parseReq rxLen data)), .replyTo n (BitVec.ofInt 64 now)] := by
  simp [ntpReply, assembleLine, hdata, padZero_of_length hdata]

/-- A reply to the last response collected, an OK one, issues BUILD_RESP of its result (R73, R74). -/
theorem hostStepFrame_replyTo_last (received : List Frame) (len : Byte) (q : List Byte) (now : BitVec 64) :
    hostStepFrame (received ++ [0x00 :: len :: q]) (.replyTo (received.length + 1) now) =
      some (encode (.buildResp q now)) := by
  simp [hostStepFrame, nthResponse, okResult, statusOk]

/-- PARSE_REQ answers a well-formed request with its image (R146). -/
theorem responseTo_parseReq (cfg : Config) {rxLen : BitVec 16} {data : List Byte} (hdata : data.length = 48)
    (hrx : 48 ≤ rxLen.toNat) : responseTo cfg (encode (.parseReq rxLen data)) = 0x00 :: 0x30 :: data := by
  rw [responseTo_of_decode_ok (decode_encode_parseReq rxLen hdata), instrResult]
  rcases parseReqResult_cases rxLen data with ⟨hlt, -⟩ | ⟨-, hok⟩
  · omega
  · simp [hok, hdata]

/-- BUILD_RESP answers a time that encodes with the 48-byte response (R161). -/
theorem responseTo_buildResp {cfg : Config} {req : List Byte} {now : BitVec 64} {ts : Timestamp} (hreq : req.length = 48)
    (hts : tsEnc cfg.tickHz.hz (nowTicks now) = .ok ts) :
    responseTo cfg (encode (.buildResp req now)) = 0x00 :: 0x30 :: ntpResponse cfg req ts := by
  rw [responseTo_of_decode_ok (decode_encode_buildResp now hreq), instrResult, buildRespResult_of_ok cfg req now ts hts]
  simp [ntpResponse_length cfg req ts hreq]

/-- Bytes 24 to 31 of the response, the originate timestamp, are the request's transmit timestamp (R162). -/
theorem ntpResponse_origin (cfg : Config) {req : List Byte} (ts : Timestamp) (hreq : req.length = 48) :
    slice (ntpResponse cfg req ts) 24 8 = slice req 40 8 := by
  rw [ntpResponse_eq cfg req ts hreq, List.append_assoc _ ts.bytes]
  exact slice_append_of_length (by simp) (transmitBytes_length req hreq)

/-- Settles O26: PARSE_REQ and the BUILD_RESP of its image take three steps each, and the second response echoes the
transmit timestamp. -/
theorem ntpReplyEchoesTransmitTimestamp : Obligations.NtpReplyEchoesTransmitTimestamp := by
  intro rxLen data now ts s hdata hrx hlo hhi hts hphase hschedule hprogram
  rw [assemble_ntpReply _ rxLen now hdata] at hprogram
  rw [← nowTicks_ofInt hlo hhi] at hts
  refine ⟨ntpResponse s.config data ts, ntpResponse_length _ _ _ hdata, ntpResponse_origin _ _ hdata, ?_⟩
  have hparse := run_issued_frame 3 hphase hschedule hprogram rfl
  rw [responseTo_parseReq s.config hdata hrx] at hparse
  have hreply := run_issued_frame 0 (s := { s with
      program := [.replyTo (s.received.length + 1) (BitVec.ofInt 64 now)]
      received := s.received ++ [0x00 :: 0x30 :: data]
      awaiting := false })
    hphase hschedule rfl (hostStepFrame_replyTo_last s.received 0x30 data (BitVec.ofInt 64 now))
  rw [responseTo_buildResp hdata hts] at hreply
  rw [hparse, hreply, run_zero]
  simp

end Sys2Proof.Machine
end

section
/-! PROOF. Response frames (R66): how many result bytes each command's success has (R44), and that the responses pending or
received stay legal along every step. -/

namespace Sys2Proof

/-- The number of result bytes on success (R44). -/
def Opcode.resultLength : Opcode → Nat
  | .buildIpA => 20
  | .buildIpS => 20
  | .buildUdp => 8
  | .parseReq => 48
  | .buildResp => 48

theorem Opcode.resultLength_cases (op : Opcode) :
    op.resultLength = 8 ∨ op.resultLength = 20 ∨ op.resultLength = 48 := by
  cases op <;> decide

/-- A result length fits the length byte of a response (R66). -/
theorem Opcode.toNat_resultLength_byte (op : Opcode) : (BitVec.ofNat 8 op.resultLength).toNat = op.resultLength := by
  cases op <;> rfl

/-- The operands read from a frame of its opcode's length have their fields' sizes (R62, R64, R65). -/
theorem Opcode.assemble_wellFormed {op : Opcode} {c : Frame} (h : c.length = op.frameLength) :
    (op.assemble c).wellFormed = true := by
  cases op with
  | buildIpA | buildUdp => rfl
  | buildIpS | parseReq | buildResp => simp [assemble, Instr.wellFormed, h, frameLength]

/-- What a frame decodes to is well formed (R70). -/
theorem wellFormed_of_decode_ok {c : Frame} {i : Instr} (h : decode c = .ok i) : i.wellFormed = true := by
  obtain ⟨op, _, -, hlen, rfl⟩ := decode_eq_ok h
  exact op.assemble_wellFormed hlen

end Sys2Proof

namespace Sys2Proof.Machine

/-- All that a well-formed command can compute: an error, or as many result bytes as R44 gives it. -/
theorem instrResult_cases (cfg : Config) {i : Instr} (hwf : i.wellFormed = true) :
    (∃ e, instrResult cfg i = raise e) ∨
    (∃ q, instrResult cfg i = respondOk q ∧ q.length = i.opcode.resultLength) := by
  cases i with
  | buildIpA a b => exact .inr ⟨_, rfl, ipv4Header_length cfg a b⟩
  | buildIpS sl st dl dt =>
    rcases buildIpSResult_cases cfg sl st dl dt with ⟨a, b, -, -, -, -, hok⟩ | ⟨-, herr⟩
    · exact .inr ⟨_, hok, ipv4Header_length cfg a b⟩
    · exact .inl ⟨_, herr⟩
  | buildUdp sp dp len =>
    rcases buildUdpResult_cases sp dp len with ⟨-, herr⟩ | ⟨-, -, -, -, herr⟩ | ⟨-, -, -, -, hok⟩
    · exact .inl ⟨_, herr⟩
    · exact .inl ⟨_, herr⟩
    · exact .inr ⟨_, hok, udpHeader_length sp dp len⟩
  | parseReq rx d =>
    rcases parseReqResult_cases rx d with ⟨-, herr⟩ | ⟨-, hok⟩
    · exact .inl ⟨_, herr⟩
    · exact .inr ⟨_, hok, by simpa [Instr.wellFormed, Instr.opcode, Opcode.resultLength] using hwf⟩
  | buildResp req now =>
    rcases buildRespResult_cases cfg req now with ⟨-, herr⟩ | ⟨ts, -, hok⟩
    · exact .inl ⟨_, herr⟩
    · exact .inr ⟨_, hok, ntpResponse_length cfg req ts (by simpa [Instr.wellFormed] using hwf)⟩

/-- The frame of an error is legal: a known status and no result byte (R66, R203). -/
theorem legalResponse_raise (e : ErrorKind) : legalResponse (responseFrame (raise e)) = true := by
  cases e <;> decide

/-- The frame of a success is legal when its result has a command's size (R44, R66). -/
theorem legalResponse_respondOk {q : List Byte} {op : Opcode} (hq : q.length = op.resultLength) :
    legalResponse (responseFrame (respondOk q)) = true := by
  simp only [responseFrame_respondOk, hq, legalResponse, op.toNat_resultLength_byte]
  simpa [statusValues] using op.resultLength_cases

/-- Perform's response is legal for every frame and configuration (R66, R70). -/
theorem legalResponse_responseTo (cfg : Config) (c : Frame) : legalResponse (responseTo cfg c) = true := by
  rw [responseTo_eq, frameResult]
  rcases hdecode : decode c with _ | i
  · exact legalResponse_raise _
  · rcases instrResult_cases cfg (wellFormed_of_decode_ok hdecode) with ⟨e, herr⟩ | ⟨q, hok, hq⟩
    · simp only [herr, legalResponse_raise]
    · simp only [hok, legalResponse_respondOk hq]

theorem responsesLegal_iff (s : State) :
    s.responsesLegal = true ↔
      (∀ r, s.phase = .done r → legalResponse r = true) ∧ ∀ r ∈ s.received, legalResponse r = true := by
  rcases hphase : s.phase with _ | c | r <;> simp [State.responsesLegal, hphase]

/-- Perform makes a legal response pending, Collect hands on the one pending, and no other move makes or receives one. -/
theorem PortMove.keeps_responsesLegal {t : Turn} {s s' : State} (hmove : PortMove t s s')
    (hs : s.responsesLegal = true) : s'.responsesLegal = true := by
  rw [responsesLegal_iff] at hs ⊢
  obtain ⟨hpending, hreceived⟩ := hs
  cases hmove with
  | nothing | skip => exact ⟨hpending, hreceived⟩
  | issue | reset => exact ⟨nofun, hreceived⟩
  | perform =>
    refine ⟨fun r hr => ?_, hreceived⟩
    obtain rfl : responseTo s.config _ = r := Phase.done.inj hr
    exact legalResponse_responseTo _ _
  | collect hphase =>
    refine ⟨nofun, fun r hr => ?_⟩
    rcases List.mem_append.mp hr with hold | hnew
    · exact hreceived r hold
    · obtain rfl := List.mem_singleton.mp hnew
      exact hpending r hphase

/-- A response with the status of a success is the frame of result bytes, under their number (R66). -/
theorem eq_respondOk_of_responseFrame_eq {res : Result} {n : Byte} {q : List Byte}
    (h : responseFrame res = 0x00 :: n :: q) : res = respondOk q ∧ n = BitVec.ofNat 8 q.length := by
  cases res with
  | error e => exact absurd (List.cons.inj h).1 e.code_ne_ok
  | ok q' =>
    obtain ⟨-, rfl, rfl⟩ : statusOk = 0x00 ∧ BitVec.ofNat 8 q'.length = n ∧ q' = q := by simpa [responseFrame] using h
    exact ⟨rfl, rfl⟩

/-- Settles O39: each of the port's moves keeps it, Perform since a decoded command is well formed. -/
theorem stepKeepsResponsesLegal : Obligations.StepKeepsResponsesLegal := by
  intro s s' hs hstep
  obtain ⟨t, hmove, -⟩ := portMove_of_step hstep
  exact hmove.keeps_responsesLegal hs

/-- Settles O52: a success delivers the command's result, whose length R44 gives. -/
theorem resultSizesOnSuccess : Obligations.ResultSizesOnSuccess := by
  intro i s s' n q hwf hexec hphase
  obtain rfl := (deliver_eq_next _ s s').mp (exec_eq_deliver i s ▸ hexec)
  obtain ⟨hres, rfl⟩ := eq_respondOk_of_responseFrame_eq (Phase.done.inj hphase)
  rcases instrResult_cases s.config hwf with ⟨e, herr⟩ | ⟨q', hok, hlen⟩
  · cases herr.symm.trans hres
  · obtain rfl : q' = q := Except.ok.inj (hok.symm.trans hres)
    refine ⟨by rw [hlen, Opcode.toNat_resultLength_byte], hlen.trans ?_⟩
    cases i <;> rfl

end Sys2Proof.Machine
end

section
/-! PROOF. Command frames (R60 to R65, R70): decoding the frame of a command gives the command back, and a frame that decodes
is the frame of its command. -/

namespace Sys2Proof

/-! The parts of a frame: read after they are written, and put together again after they are read. -/

theorem byteAt_append_cons {pre post : List Byte} {i : Nat} (hi : pre.length = i) (b : Byte) :
    byteAt (pre ++ b :: post) i = b := by
  subst hi
  simp [byteAt]

/-- A slice up to the end of a frame, by its offset. -/
theorem slice_append_of_length_end {pre mid : List Byte} {i n : Nat} (hi : pre.length = i) (hn : mid.length = n) :
    slice (pre ++ mid) i n = mid := by
  simpa using slice_append_of_length (post := []) hi hn

theorem byteAt_cons_drop {c : List Byte} {i : Nat} (h : i < c.length) : byteAt c i :: c.drop (i + 1) = c.drop i := by
  simp [byteAt, h]

theorem slice_append_drop (c : List Byte) (i n : Nat) : slice c i n ++ c.drop (i + n) = c.drop i := by
  rw [slice, ← List.drop_drop, List.take_append_drop]

theorem slice_eq_drop {c : List Byte} {i n : Nat} (h : c.length = i + n) : slice c i n = c.drop i :=
  List.take_of_length_le (by simp [h])

/-! An operand read from a frame is encoded by the bytes it was read from (R11, R42). -/

theorem be16_memRead {c : Frame} {i : Nat} (h : i + 2 ≤ c.length) :
    be16 (BitVec.ofNat 16 (memRead c i 2)) = slice c i 2 := by
  have hlen : (slice c i 2).length = 2 := by simp; omega
  obtain ⟨a, b, hs⟩ := List.length_eq_two.mp hlen
  rw [memRead, hs, be16_u]

theorem be32_memRead {c : Frame} {i : Nat} (h : i + 4 ≤ c.length) :
    be32 (BitVec.ofNat 32 (memRead c i 4)) = slice c i 4 := by
  have hlen : (slice c i 4).length = 4 := by simp; omega
  rw [memRead]
  match slice c i 4, hlen with
  | [a, b, c, d], _ => exact be32_u a b c d

theorem be64_memRead {c : Frame} {i : Nat} (h : i + 8 ≤ c.length) :
    be64 (BitVec.ofNat 64 (memRead c i 8)) = slice c i 8 := by
  have hlen : (slice c i 8).length = 8 := by simp; omega
  rw [memRead]
  match slice c i 8, hlen with
  | [a, b, c, d, e, f, g, h], _ => exact be64_u a b c d e f g h

theorem addrAt_bytes {c : Frame} {i : Nat} (h : i + 4 ≤ c.length) : (addrAt c i).bytes = slice c i 4 := by
  rw [slice, ← byteAt_cons_drop (by omega), ← byteAt_cons_drop (by omega), ← byteAt_cons_drop (by omega),
    ← byteAt_cons_drop (by omega)]
  rfl

/-! Decoding an encoded command. -/

/-- A well-formed command's frame has the length its opcode fixes (R60). -/
theorem encode_length {i : Instr} (h : i.wellFormed = true) : (encode i).length = i.opcode.frameLength := by
  cases i with
  | buildIpA | buildUdp => rfl
  | buildIpS sl st dl dt =>
    obtain ⟨hst, hdt⟩ : st.length = 15 ∧ dt.length = 15 := by simpa [Instr.wellFormed] using h
    simp [encode, Instr.opcode, Opcode.frameLength, hst, hdt]
  | parseReq rx data =>
    have hdata : data.length = 48 := by simpa [Instr.wellFormed] using h
    simp [encode, Instr.opcode, Opcode.frameLength, hdata]
  | buildResp req now =>
    have hreq : req.length = 48 := by simpa [Instr.wellFormed] using h
    simp [encode, Instr.opcode, Opcode.frameLength, hreq]

/-- The operands of BUILD_UDP are read back from offsets 1, 5 and 9 (R63). -/
theorem assemble_encode_buildUdp (sp dp len : BitVec 32) :
    Opcode.buildUdp.assemble (encode (.buildUdp sp dp len)) = .buildUdp sp dp len := by
  have hsp : memRead (encode (.buildUdp sp dp len)) 1 4 = sp.toNat := u_be32 sp
  have hdp : memRead (encode (.buildUdp sp dp len)) 5 4 = dp.toNat := u_be32 dp
  have hlen : memRead (encode (.buildUdp sp dp len)) 9 4 = len.toNat := u_be32 len
  simp [Opcode.assemble, hsp, hdp, hlen]

/-- The lengths and texts of BUILD_IP_S are read back from offsets 1, 2, 17 and 18 (R62). -/
theorem assemble_encode_buildIpS (sl dl : Byte) {st dt : List Byte} (hst : st.length = 15) (hdt : dt.length = 15) :
    Opcode.buildIpS.assemble (encode (.buildIpS sl st dl dt)) = .buildIpS sl st dl dt := by
  have hsrcText : slice (encode (.buildIpS sl st dl dt)) 2 15 = st :=
    slice_append_of_length (pre := [0x11, sl]) rfl hst
  have hdstLen : byteAt (encode (.buildIpS sl st dl dt)) 17 = dl :=
    byteAt_append_cons (pre := 0x11 :: sl :: st) (by simp [hst]) dl
  have hdstText : slice (encode (.buildIpS sl st dl dt)) 18 15 = dt := by
    have := slice_append_of_length_end (pre := 0x11 :: sl :: (st ++ [dl])) (i := 18) (by simp [hst]) hdt
    simpa [encode] using this
  simp only [Opcode.assemble, hsrcText, hdstLen, hdstText]
  rfl

/-- A frame whose operands are read back decodes: its opcode and its length are right (R70). -/
theorem decode_encode_of_assemble {i : Instr} (hwf : i.wellFormed = true) (h : i.opcode.assemble (encode i) = i) :
    decode (encode i) = .ok i := by
  obtain ⟨rest, hshape⟩ := encode_head i
  have hlen : rest.length + 1 = i.opcode.frameLength := by simpa [hshape] using encode_length hwf
  rw [hshape, decode_of_shape _ _ hlen, ← hshape, h]

/-- Settles O30: each format's operands are read back from the offsets its frame has them at. -/
theorem decodeOfEncodeIsIdentity : Obligations.DecodeOfEncodeIsIdentity := by
  intro i h
  cases i with
  | buildIpA a b => exact decode_encode_of_assemble h rfl
  | buildIpS sl st dl dt =>
    obtain ⟨hst, hdt⟩ : st.length = 15 ∧ dt.length = 15 := by simpa [Instr.wellFormed] using h
    exact decode_encode_of_assemble h (assemble_encode_buildIpS sl dl hst hdt)
  | buildUdp sp dp len => exact decode_encode_of_assemble h (assemble_encode_buildUdp sp dp len)
  | parseReq rx data => exact decode_encode_parseReq rx (by simpa [Instr.wellFormed] using h)
  | buildResp req now => exact decode_encode_buildResp now (by simpa [Instr.wellFormed] using h)

/-! Encoding a decoded frame. -/

/-- The operands assembled from a frame of its opcode's length are encoded by the frame's bytes, and all of them: nothing
after the opcode is left out (R61 to R65). -/
theorem encode_assemble {op : Opcode} {c : Frame} (h : c.length = op.frameLength) :
    encode (op.assemble c) = op.byte :: c.drop 1 := by
  cases op with
  | buildIpA =>
    replace h : c.length = 9 := h
    rw [Opcode.assemble, encode, addrAt_bytes (by omega), addrAt_bytes (by omega), slice_eq_drop (i := 5) h,
      slice_append_drop c 1 4]
    rfl
  | buildIpS =>
    replace h : c.length = 33 := h
    rw [Opcode.assemble, encode, slice_eq_drop (i := 18) h, byteAt_cons_drop (by omega), slice_append_drop c 2 15,
      byteAt_cons_drop (by omega)]
    rfl
  | buildUdp =>
    replace h : c.length = 13 := h
    rw [Opcode.assemble, encode, be32_memRead (by omega), be32_memRead (by omega), be32_memRead (by omega), List.append_assoc,
      slice_eq_drop (i := 9) h, slice_append_drop c 5 4, slice_append_drop c 1 4]
    rfl
  | parseReq =>
    replace h : c.length = 51 := h
    rw [Opcode.assemble, encode, be16_memRead (by omega), slice_eq_drop (i := 3) h, slice_append_drop c 1 2]
    rfl
  | buildResp =>
    replace h : c.length = 57 := h
    rw [Opcode.assemble, encode, be64_memRead (by omega), slice_eq_drop (i := 49) h, slice_append_drop c 1 48]
    rfl

/-- Settles O31: a frame that decodes has its opcode's byte and length, so its operands are the rest of it. -/
theorem encodeOfDecodeIsIdentity : Obligations.EncodeOfDecodeIsIdentity := by
  intro c i h
  obtain ⟨op, rest, hc, hlen, rfl⟩ := decode_eq_ok h
  exact ⟨wellFormed_of_decode_ok h, by rw [encode_assemble hlen, hc, List.drop_one, List.tail_cons]⟩

/-! The opcode table, and frames written out. -/

/-- Settles O33: the five rows of the table, and each opcode's high nibble. -/
theorem opcodeTable : Obligations.OpcodeTable :=
  ⟨rfl, fun op => by cases op <;> rfl⟩

/-- Settles O34: each frame is the frame of its command, and decoding gives that command back. -/
theorem writtenFramesDecode : Obligations.WrittenFramesDecode :=
  ⟨decodeOfEncodeIsIdentity (.buildIpA ⟨10, 0, 0, 1⟩ ⟨10, 0, 0, 2⟩) rfl,
    decodeOfEncodeIsIdentity (.buildUdp 1234 53 100) rfl,
    decodeOfEncodeIsIdentity (.parseReq 48 (List.replicate 48 0x00)) rfl⟩

end Sys2Proof
end

section
/-! PROOF. NTP_REPLY on a malformed request (R74): the PARSE_REQ is answered with its error, and the host's second step issues
nothing. -/

namespace Sys2Proof.Machine

/-- NTP_REPLY on a packet of at most 48 bytes is two host steps: PARSE_REQ on the packet filled with zero bytes, and a reply
to the result of that (R73, R74). -/
theorem assemble_ntpReply_padded (n : Nat) (rxLen : BitVec 16) {data : List Byte} (now : Int) (hdata : data.length ≤ 48) :
    (ntpReply n rxLen data now).filterMap assembleLine =
      [.issue (encode (.parseReq rxLen (padZero 48 data))), .replyTo n (BitVec.ofInt 64 now)] := by
  simp [ntpReply, assembleLine, hdata]

theorem padZero_length {b : List Byte} {n : Nat} (h : b.length ≤ n) : (padZero n b).length = n := by
  simp [padZero, h]

/-- PARSE_REQ answers a received length below 48 with MalformedPacket (R144). -/
theorem responseTo_parseReq_malformed (cfg : Config) {rxLen : BitVec 16} {data : List Byte} (hdata : data.length = 48)
    (hrx : rxLen.toNat < 48) : responseTo cfg (encode (.parseReq rxLen data)) = [0x03, 0x00] := by
  rw [responseTo_of_decode_ok (decode_encode_parseReq rxLen hdata), instrResult]
  rcases parseReqResult_cases rxLen data with ⟨-, herr⟩ | ⟨hge, -⟩
  · rw [herr]
    rfl
  · omega

/-- A response with an error's status has no result to copy (R66, R74). -/
theorem okResult_of_error_status (e : ErrorKind) (n : Byte) (q : List Byte) : okResult (e.code :: n :: q) = none :=
  if_neg e.code_ne_ok

/-- A reply to the last response collected, when that is an error, issues nothing (R74, R238). -/
theorem hostStepFrame_replyTo_last_error (received : List Frame) (e : ErrorKind) (now : BitVec 64) :
    hostStepFrame (received ++ [[e.code, 0x00]]) (.replyTo (received.length + 1) now) = none := by
  simp [hostStepFrame, nthResponse, okResult_of_error_status]

/-- From an idle port, with no turn named, a host step that issues nothing is used up by one step of the machine (log 11). -/
theorem step_of_host_step_without_frame {s : State} {h : HostStep} {rest : List HostStep} (hphase : s.phase = .idle)
    (hschedule : s.schedule = []) (hprogram : s.program = h :: rest) (hframe : hostStepFrame s.received h = none) :
    step s = .next { s with program := rest } := by
  have hturn : defaultTurn s.phase = .issue := by rw [hphase, defaultTurn]
  rw [step_of_schedule_nil hschedule, hturn, takeTurn, issueTurn_of_idle hphase hprogram,
    takeHostStep_of_none (s := { s with program := rest }) hframe]

/-- Settles O27: PARSE_REQ takes three steps and is answered MalformedPacket, and the fourth step uses up the reply. -/
theorem ntpReplyOfMalformedRequestIssuesNothing : Obligations.NtpReplyOfMalformedRequestIssuesNothing := by
  intro rxLen data now s hdata hrx hphase hschedule hprogram
  rw [assemble_ntpReply_padded _ rxLen now hdata] at hprogram
  have hparse := run_issued_frame 1 hphase hschedule hprogram rfl
  rw [responseTo_parseReq_malformed s.config (padZero_length hdata) hrx] at hparse
  have hskip := step_of_host_step_without_frame (s := { s with
      program := [.replyTo (s.received.length + 1) (BitVec.ofInt 64 now)]
      received := s.received ++ [[0x03, 0x00]]
      awaiting := false })
    hphase hschedule rfl (hostStepFrame_replyTo_last_error s.received .malformedPacket _)
  rw [hparse, run_succ _ _ _ hskip, run_zero]

end Sys2Proof.Machine
end

section
/-! PROOF. The bytes of a frame that no rule reads (R71): which bytes each command's result does depend on. -/

namespace Sys2Proof

/-- A slice is determined by the bytes at its own offsets. -/
theorem slice_congr {c₁ c₂ : Frame} {start n : Nat} (h : ∀ i, start ≤ i → i < start + n → c₁[i]? = c₂[i]?) :
    slice c₁ start n = slice c₂ start n := by
  apply List.ext_getElem?
  intro j
  by_cases hj : j < n
  · simpa [slice, hj] using h (start + j) (by omega) (by omega)
  · simp [slice, hj]

theorem byteAt_congr {c₁ c₂ : Frame} {i : Nat} (h : c₁[i]? = c₂[i]?) : byteAt c₁ i = byteAt c₂ i := by
  simp [byteAt, List.getD_eq_getElem?_getD, h]

theorem memRead_congr {c₁ c₂ : Frame} {start n : Nat} (h : ∀ i, start ≤ i → i < start + n → c₁[i]? = c₂[i]?) :
    memRead c₁ start n = memRead c₂ start n := by
  rw [memRead, memRead, slice_congr h]

/-- A slice that lies within a slice. -/
theorem slice_slice (c : Frame) {i n j m : Nat} (h : j + m ≤ n) : slice (slice c i n) j m = slice c (i + j) m := by
  simp [slice, List.drop_take, List.take_take, List.drop_drop]
  omega

end Sys2Proof

namespace Sys2Proof.Machine

/-- The text of a field that a frame holds is read from the frame's own bytes, when its length fits the field (R62). -/
theorem addressText_slice (c : Frame) {len : Byte} (start : Nat) (h : len.toNat ≤ 15) :
    addressText len (slice c start 15) = slice c start len.toNat :=
  slice_slice c (j := 0) (by omega)

/-! What the result of each command with ignored bytes depends on. -/

/-- BUILD_IP_S reads no text byte when a length is above 15, and else only the two texts (R111, R113). -/
theorem buildIpSResult_congr (cfg : Config) {sl dl : Byte} {st st' dt dt' : List Byte}
    (hs : sl.toNat ≤ 15 → addressText sl st = addressText sl st')
    (hd : dl.toNat ≤ 15 → addressText dl dt = addressText dl dt') :
    buildIpSResult cfg sl st dl dt = buildIpSResult cfg sl st' dl dt' := by
  by_cases hlong : sl.toNat > textFieldLength ∨ dl.toNat > textFieldLength
  · simp only [buildIpSResult, if_pos hlong]
  · obtain ⟨hsl, hdl⟩ : sl.toNat ≤ 15 ∧ dl.toNat ≤ 15 := by simpa [not_or] using hlong
    simp only [buildIpSResult, hs hsl, hd hdl]

/-- PARSE_REQ reads the data only when the received length is at least 48 (R144, R146). -/
theorem parseReqResult_congr {rx : BitVec 16} {d d' : List Byte} (h : 48 ≤ rx.toNat → d = d') :
    parseReqResult rx d = parseReqResult rx d' := by
  by_cases hshort : rx.toNat < minRequestLength
  · simp only [parseReqResult, if_pos hshort]
  · rw [h (Nat.le_of_not_lt hshort)]

/-- BUILD_RESP reads no request byte but the transmit timestamp (R161, R163). -/
theorem buildRespResult_congr (cfg : Config) {req req' : List Byte} (now : BitVec 64)
    (h : transmitBytes req = transmitBytes req') : buildRespResult cfg req now = buildRespResult cfg req' now := by
  simp only [buildRespResult, ntpResponse, h]

/-! Which bytes of a frame are not ignored (R71), by its opcode. -/

/-- The opcode byte is read in every frame. -/
theorem ignoredByte_zero (c : Frame) : ignoredByte c 0 = false := by
  rcases hop : c.head?.bind Opcode.ofByte with _ | op
  · simp [ignoredByte, hop]
  · cases op <;> simp [ignoredByte, hop]

theorem ignoredByte_buildIpS {c : Frame} (hop : c.head? = some Opcode.buildIpS.byte) (i : Nat) :
    ignoredByte c i = false ↔
      (2 ≤ i → i ≤ 16 → i - 2 < (byteAt c 1).toNat) ∧ (18 ≤ i → i ≤ 32 → i - 18 < (byteAt c 17).toNat) := by
  simp [ignoredByte, hop]

theorem ignoredByte_parseReq {c : Frame} (hop : c.head? = some Opcode.parseReq.byte) (i : Nat) :
    ignoredByte c i = false ↔ (3 ≤ i → i ≤ 50 → i - 3 < memRead c 1 2) := by
  simp [ignoredByte, hop]

theorem ignoredByte_buildResp {c : Frame} (hop : c.head? = some Opcode.buildResp.byte) (i : Nat) :
    ignoredByte c i = false ↔ (1 ≤ i → 40 < i) := by
  simp [ignoredByte, hop]

/-! Frames that agree outside the ignored bytes. -/

/-- The commands read from two frames of one opcode that agree outside the ignored bytes compute the same result (R71). -/
theorem instrResult_assemble_congr (cfg : Config) {op : Opcode} {c₁ c₂ : Frame} (hop : c₁.head? = some op.byte)
    (hagree : ∀ i, ignoredByte c₁ i = false → c₁[i]? = c₂[i]?) :
    instrResult cfg (op.assemble c₁) = instrResult cfg (op.assemble c₂) := by
  cases op with
  | buildIpA | buildUdp =>
    have hsame : c₁ = c₂ := List.ext_getElem? fun i => hagree i (by simp [ignoredByte, hop])
    rw [hsame]
  | buildIpS =>
    have hread i := fun h => hagree i ((ignoredByte_buildIpS hop i).mpr h)
    have hsl : byteAt c₁ 1 = byteAt c₂ 1 := byteAt_congr (hread 1 (by omega))
    have hdl : byteAt c₁ 17 = byteAt c₂ 17 := byteAt_congr (hread 17 (by omega))
    simp only [Opcode.assemble, instrResult, ← hsl, ← hdl]
    refine buildIpSResult_congr cfg (fun hfits => ?_) (fun hfits => ?_)
    · rw [addressText_slice c₁ 2 hfits, addressText_slice c₂ 2 hfits]
      exact slice_congr fun i hlo hhi => hread i (by omega)
    · rw [addressText_slice c₁ 18 hfits, addressText_slice c₂ 18 hfits]
      exact slice_congr fun i hlo hhi => hread i (by omega)
  | parseReq =>
    have hread i := fun h => hagree i ((ignoredByte_parseReq hop i).mpr h)
    have hrx : memRead c₁ 1 2 = memRead c₂ 1 2 := memRead_congr fun i hlo hhi => hread i (by omega)
    simp only [Opcode.assemble, instrResult, ← hrx]
    refine parseReqResult_congr fun hwhole => ?_
    have hlong : 48 ≤ memRead c₁ 1 2 := hwhole.trans (Nat.mod_le _ _)
    exact slice_congr fun i hlo hhi => hread i (by omega)
  | buildResp =>
    have hread i := fun h => hagree i ((ignoredByte_buildResp hop i).mpr h)
    have hnow : memRead c₁ 49 8 = memRead c₂ 49 8 := memRead_congr fun i hlo hhi => hread i (by omega)
    simp only [Opcode.assemble, instrResult, ← hnow]
    refine buildRespResult_congr cfg _ ?_
    rw [transmitBytes, transmitBytes, slice_slice c₁ (by decide), slice_slice c₂ (by decide)]
    exact slice_congr fun i hlo hhi => hread i (by omega)

/-- Frames of one opcode and one length both decode or are both illegal (R70). -/
theorem frameResult_congr (cfg : Config) {op : Opcode} {rest₁ rest₂ : Frame} (hlen : rest₁.length = rest₂.length)
    (h : instrResult cfg (op.assemble (op.byte :: rest₁)) = instrResult cfg (op.assemble (op.byte :: rest₂))) :
    frameResult cfg (op.byte :: rest₁) = frameResult cfg (op.byte :: rest₂) := by
  by_cases hfits : rest₂.length + 1 = op.frameLength
  · simp only [frameResult, decode_of_shape op _ (hlen ▸ hfits), decode_of_shape op _ hfits, h]
  · simp [frameResult, decode, hlen, hfits]

/-- Settles O28: the opcode byte is not ignored, so both frames are illegal, or both decode by one opcode to commands with
one result. -/
theorem ignoredBytesDoNotMatter : Obligations.IgnoredBytesDoNotMatter := by
  intro c₁ c₂ s hlen hagree
  have hhead : c₁[0]? = c₂[0]? := hagree 0 (ignoredByte_zero c₁)
  rw [perform_eq_deliver, perform_eq_deliver]
  congr 1
  match c₁, c₂ with
  | [], [] => rfl
  | b :: rest₁, b' :: rest₂ =>
    obtain rfl : b = b' := by simpa using hhead
    rcases hop : Opcode.ofByte b with _ | op
    · simp [frameResult, decode, hop]
    · obtain rfl := Opcode.ofByte_eq_some hop
      exact frameResult_congr s.config (by simpa using hlen) (instrResult_assemble_congr s.config rfl hagree)

end Sys2Proof.Machine
end

section
/-! PROOF. The Header Builder's two headers: what BUILD_IP_A, BUILD_IP_S and BUILD_UDP answer (R103, R113, R123). -/

namespace Sys2Proof.Machine

/-! The response a command leaves, from the result it computes (R66, R203). -/

theorem exec_of_respondOk (i : Instr) (s : State) {q : List Byte} {n : Nat} (hres : instrResult s.config i = respondOk q)
    (hlen : q.length = n) : exec i s = .next (s.answered (0x00 :: BitVec.ofNat 8 n :: q)) := by
  rw [exec_eq_deliver, hres, deliver, responseFrame_respondOk, hlen]

/-- The response of an error comes from that error alone: a success has another status, and so has every other error. -/
theorem responseFrame_eq_error_iff {res : Result} {e : ErrorKind} :
    responseFrame res = [e.code, 0x00] ↔ res = raise e := by
  constructor
  · intro h
    cases res with
    | ok q => exact absurd (List.cons.inj h).1.symm e.code_ne_ok
    | error f => rw [f.code_injective e (List.cons.inj h).1, raise]
  · rintro rfl
    exact responseFrame_raise e

theorem exec_eq_error_iff (i : Instr) (s : State) (e : ErrorKind) :
    exec i s = .next (s.answered [e.code, 0x00]) ↔ instrResult s.config i = raise e := by
  rw [exec_eq_deliver, deliver_eq_next, eq_comm, ← responseFrame_eq_error_iff]
  simp

/-! BUILD_IP_A. -/

theorem exec_buildIpA (a b : Ipv4Addr) (s : State) :
    exec (.buildIpA a b) s = .next (s.answered (0x00 :: 0x14 :: ipv4Header s.config a b)) :=
  exec_of_respondOk (.buildIpA a b) s rfl (ipv4Header_length s.config a b)

theorem addrAt_ipv4Header_src (cfg : Config) (a b : Ipv4Addr) : addrAt (ipv4Header cfg a b) 12 = a := by
  rw [ipv4Header_eq]; rfl

theorem addrAt_ipv4Header_dst (cfg : Config) (a b : Ipv4Addr) : addrAt (ipv4Header cfg a b) 16 = b := by
  rw [ipv4Header_eq]; rfl

/-- The bytes before the addresses depend on `IP_ID` alone (R104). -/
theorem take_ipv4Header (cfg : Config) (a b : Ipv4Addr) :
    (ipv4Header cfg a b).take 12 = [0x45, 0x00, 0x00, 0x00] ++ be16 cfg.ipId ++ [0x00, 0x00, 0xFF, 0x11, 0x00, 0x00] := by
  rw [ipv4Header_eq]; rfl

/-- Settles O3: the header is the concatenation of its fields. -/
theorem buildIpAWritesHeader : Obligations.BuildIpAWritesHeader := by
  intro a b s
  rw [exec_buildIpA, ipv4Header_eq]
  rfl

/-- Settles O4: both results are the header, whose fields are read at their offsets. -/
theorem buildIpAResultRecoversAddresses : Obligations.BuildIpAResultRecoversAddresses := by
  intro a b a' b' s s' hid
  refine ⟨_, _, exec_buildIpA a b s, exec_buildIpA a' b' s', ipv4Header_length s.config a b,
    addrAt_ipv4Header_src s.config a b, addrAt_ipv4Header_dst s.config a b, ?_⟩
  rw [take_ipv4Header, take_ipv4Header, hid]

/-! BUILD_IP_S. -/

/-- R112: on two texts that parse, BUILD_IP_S is BUILD_IP_A of the addresses. -/
theorem exec_buildIpS_of_parsed {sl dl : Byte} {st dt : List Byte} {a b : Ipv4Addr} (hsl : sl.toNat ≤ 15)
    (hdl : dl.toNat ≤ 15) (hs : parseIpv4 (addressText sl st) = some a) (hd : parseIpv4 (addressText dl dt) = some b)
    (s : State) : exec (.buildIpS sl st dl dt) s = exec (.buildIpA a b) s := by
  have hres : buildIpSResult s.config sl st dl dt = respondOk (ipv4Header s.config a b) := by
    simp only [buildIpSResult, hs, hd]
    exact if_neg (by simp only [textFieldLength]; omega)
  exact (exec_of_respondOk (.buildIpS sl st dl dt) s hres (ipv4Header_length s.config a b)).trans (exec_buildIpA a b s).symm

/-- Settles O5: the answer is BUILD_IP_A's, on the two addresses. -/
theorem buildIpSWritesHeaderOfParsedTexts : Obligations.BuildIpSWritesHeaderOfParsedTexts :=
  fun _ _ _ _ a b s hsl hdl hs hd => (exec_buildIpS_of_parsed hsl hdl hs hd s).trans (buildIpAWritesHeader a b s)

/-- The two ways BUILD_IP_S ends exclude each other (R113). -/
theorem buildIpSResult_eq_invalidAddress_iff {cfg : Config} {sl dl : Byte} {st dt : List Byte} :
    buildIpSResult cfg sl st dl dt = raise .invalidAddress ↔
      (sl.toNat > 15 ∨ dl.toNat > 15 ∨ parseIpv4 (addressText sl st) = none ∨ parseIpv4 (addressText dl dt) = none) := by
  rcases buildIpSResult_cases cfg sl st dl dt with ⟨a, b, hsl, hdl, hs, hd, hres⟩ | ⟨hbad, hres⟩
  · exact iff_of_false (hres ▸ nofun) (by simp [hs, hd, hsl, hdl])
  · exact iff_of_true hres hbad

/-- Settles O6: the response is InvalidAddress's exactly when that is the result. -/
theorem buildIpSInvalidAddressExactly : Obligations.BuildIpSInvalidAddressExactly :=
  fun sl dl st dt s => (exec_eq_error_iff (.buildIpS sl st dl dt) s .invalidAddress).trans
    buildIpSResult_eq_invalidAddress_iff

/-! BUILD_UDP. -/

theorem buildUdpResult_eq_invalidPort_iff {sp dp len : BitVec 32} :
    buildUdpResult sp dp len = raise .invalidPort ↔ (sp.toNat > 65535 ∨ dp.toNat > 65535 ∨ dp.toNat = 0) := by
  rcases buildUdpResult_cases sp dp len with
    ⟨hbad, hres⟩ | ⟨hsp, hdp, hdp0, -, hres⟩ | ⟨hsp, hdp, hdp0, -, hres⟩
  · exact iff_of_true hres hbad
  · exact iff_of_false (hres ▸ nofun) (by omega)
  · exact iff_of_false (hres ▸ nofun) (by omega)

/-- Settles O10: the response is InvalidPort's exactly when that is the result. -/
theorem buildUdpInvalidPortExactly : Obligations.BuildUdpInvalidPortExactly :=
  fun sp dp len s => (exec_eq_error_iff (.buildUdp sp dp len) s .invalidPort).trans buildUdpResult_eq_invalidPort_iff

theorem exec_buildUdp_of_accepted {sp dp len : BitVec 32} (hsp : sp.toNat ≤ 65535) (hdp1 : 1 ≤ dp.toNat)
    (hdp : dp.toNat ≤ 65535) (hlen : len.toNat ≤ 65527) (s : State) :
    exec (.buildUdp sp dp len) s = .next (s.answered (0x00 :: 0x08 :: udpHeader sp dp len)) := by
  rcases buildUdpResult_cases sp dp len with ⟨hbad, -⟩ | ⟨-, -, -, hlong, -⟩ | ⟨-, -, -, -, hres⟩
  · omega
  · omega
  · exact exec_of_respondOk (.buildUdp sp dp len) s hres (udpHeader_length sp dp len)

/-- The sentinel is the operand 0 (R124). -/
theorem toNat_effectiveSourcePort (sp dp : BitVec 32) :
    (effectiveSourcePort sp dp).toNat = if sp.toNat = 0 then dp.toNat else sp.toNat := by
  simp only [effectiveSourcePort, BitVec.toNat_eq, apply_ite BitVec.toNat]
  rfl

/-- The header's fields in order, as numbers (R120). -/
theorem udpHeader_eq_ofNat (sp dp len : BitVec 32) :
    udpHeader sp dp len = be16 (BitVec.ofNat 16 (if sp.toNat = 0 then dp.toNat else sp.toNat))
      ++ be16 (BitVec.ofNat 16 dp.toNat) ++ be16 (BitVec.ofNat 16 (len.toNat + 8)) ++ [0x00, 0x00] := by
  rw [udpHeader_eq, ← BitVec.ofNat_toNat, ← BitVec.ofNat_toNat, toNat_effectiveSourcePort]

/-- Settles O9: the header is the concatenation of its fields. -/
theorem buildUdpWritesHeader : Obligations.BuildUdpWritesHeader := by
  intro sp dp len s hsp hdp1 hdp hlen
  rw [exec_buildUdp_of_accepted hsp hdp1 hdp hlen, udpHeader_eq_ofNat]
  rfl

/-- A 16-bit field gives back the number it was written with (R11). -/
theorem u_be16_ofNat {n : Nat} (h : n < 65536) : u (be16 (BitVec.ofNat 16 n)) = n := by
  rw [u_be16, BitVec.toNat_ofNat, Nat.mod_eq_of_lt h]

/-- Settles O12: each slice is one field of the header, and no field's value is cut off. -/
theorem buildUdpResultRoundTrips : Obligations.BuildUdpResultRoundTrips := by
  intro sp dp len s hsp hdp1 hdp hlen
  refine ⟨_, exec_buildUdp_of_accepted hsp hdp1 hdp hlen s, udpHeader_length sp dp len, ?_⟩
  rw [udpHeader_eq_ofNat]
  exact ⟨u_be16_ofNat (by split <;> omega), u_be16_ofNat (by omega), u_be16_ofNat (by omega), rfl⟩

end Sys2Proof.Machine
end

section
/-! PROOF. ParseIPv4 (R110): it accepts exactly the canonical text of each address. -/

namespace Sys2Proof.Machine

/-! ASCII digits. -/

theorem toNat_digitByte {d : Nat} (h : d < 10) : (digitByte d).toNat = 0x30 + d := by
  rw [digitByte, BitVec.toNat_ofNat, Nat.mod_eq_of_lt (by omega)]

theorem isDigit_iff {x : Byte} : isDigit x = true ↔ ∃ d < 10, digitByte d = x := by
  constructor
  · intro h
    obtain ⟨hlo, hhi⟩ : 0x30 ≤ x.toNat ∧ x.toNat ≤ 0x39 := by simpa [isDigit] using h
    refine ⟨x.toNat - 0x30, by omega, BitVec.eq_of_toNat_eq ?_⟩
    rw [toNat_digitByte (by omega)]
    omega
  · rintro ⟨d, hd, rfl⟩
    simp only [isDigit, toNat_digitByte hd, Bool.and_eq_true, decide_eq_true_eq]
    omega

theorem isDigit_digitByte {d : Nat} (h : d < 10) : isDigit (digitByte d) = true := isDigit_iff.mpr ⟨d, h, rfl⟩

theorem digitByte_eq_zero_iff {d : Nat} (h : d < 10) : digitByte d = 48#8 ↔ d = 0 := by
  rw [BitVec.toNat_eq, toNat_digitByte h]
  exact Nat.add_eq_left

/-! One part: the checks of R110, and what they say of each number of digits. -/

theorem parsePart_eq_some_iff {p : List Byte} {b : Byte} :
    parsePart p = some b ↔ (1 ≤ p.length ∧ p.length ≤ 3) ∧ (∀ x ∈ p, isDigit x = true) ∧
      (1 < p.length → p.head? ≠ some 0x30) ∧ b.toNat = decimalValue p := by
  have hb := b.isLt
  unfold parsePart
  split_ifs with hlen hdigits hzero hbig
  · exact iff_of_false nofun fun h => by omega
  · have hno : ¬ ∀ x ∈ p, isDigit x = true := by simpa using hdigits
    exact iff_of_false nofun fun ⟨_, hall, _⟩ => hno hall
  · exact iff_of_false nofun fun ⟨_, _, hhead, _⟩ => hhead hzero.1 hzero.2
  · exact iff_of_false nofun fun ⟨_, _, _, heq⟩ => by omega
  · have hall : ∀ x ∈ p, isDigit x = true := by simpa using hdigits
    have hfits : decimalValue p < 2 ^ 8 := by omega
    rw [Option.some.injEq, eq_comm, BitVec.toNat_eq, BitVec.toNat_ofNat, Nat.mod_eq_of_lt hfits]
    exact ⟨fun heq => ⟨by omega, hall, not_and.mp hzero, heq⟩, fun ⟨_, _, _, heq⟩ => heq⟩

section
variable {b : Byte} {c d e : Nat} (hc : c < 10) (hd : d < 10) (he : e < 10)
include hc

theorem parsePart_one_digit : parsePart [digitByte c] = some b ↔ b.toNat = c := by
  simp [parsePart_eq_some_iff, isDigit_digitByte, decimalValue, toNat_digitByte, hc]

include hd

theorem parsePart_two_digits : parsePart [digitByte c, digitByte d] = some b ↔ c ≠ 0 ∧ b.toNat = c * 10 + d := by
  simp [parsePart_eq_some_iff, isDigit_digitByte, decimalValue, toNat_digitByte, digitByte_eq_zero_iff, hc, hd]

include he

theorem parsePart_three_digits :
    parsePart [digitByte c, digitByte d, digitByte e] = some b ↔ c ≠ 0 ∧ b.toNat = (c * 10 + d) * 10 + e := by
  simp [parsePart_eq_some_iff, isDigit_digitByte, decimalValue, toNat_digitByte, digitByte_eq_zero_iff, hc, hd, he]

end

theorem parsePart_decimalText (b : Byte) : parsePart (decimalText b) = some b := by
  have hb := b.isLt
  simp only [decimalText]
  split_ifs with hone htwo
  · exact (parsePart_one_digit hone).mpr rfl
  · exact (parsePart_two_digits (by omega) (by omega)).mpr (by omega)
  · exact (parsePart_three_digits (by omega) (by omega) (by omega)).mpr (by omega)

/-- The number of digits and the value leave one choice for each digit. -/
theorem eq_decimalText_of_parsePart {p : List Byte} {b : Byte} (h : parsePart p = some b) : p = decimalText b := by
  obtain ⟨hlen, hdigits, -, -⟩ := parsePart_eq_some_iff.mp h
  simp only [isDigit_iff] at hdigits
  match p with
  | [x] =>
    obtain ⟨c, hc, rfl⟩ := hdigits x (by simp)
    have hval := (parsePart_one_digit hc).mp h
    rw [decimalText, if_pos (by omega), hval]
  | [x, y] =>
    obtain ⟨c, hc, rfl⟩ := hdigits x (by simp)
    obtain ⟨d, hd, rfl⟩ := hdigits y (by simp)
    obtain ⟨hc0, hval⟩ := (parsePart_two_digits hc hd).mp h
    rw [decimalText, if_neg (by omega), if_pos (by omega), show b.toNat / 10 = c by omega, show b.toNat % 10 = d by omega]
  | [x, y, z] =>
    obtain ⟨c, hc, rfl⟩ := hdigits x (by simp)
    obtain ⟨d, hd, rfl⟩ := hdigits y (by simp)
    obtain ⟨e, he, rfl⟩ := hdigits z (by simp)
    obtain ⟨hc0, hval⟩ := (parsePart_three_digits hc hd he).mp h
    rw [decimalText, if_neg (by omega), if_neg (by omega), show b.toNat / 100 = c by omega,
      show b.toNat / 10 % 10 = d by omega, show b.toNat % 10 = e by omega]

theorem parsePart_eq_some_iff_decimalText {p : List Byte} {b : Byte} : parsePart p = some b ↔ p = decimalText b :=
  ⟨eq_decimalText_of_parsePart, fun h => h ▸ parsePart_decimalText b⟩

theorem decimalText_length_le (b : Byte) : (decimalText b).length ≤ 3 := by
  obtain ⟨⟨-, hmax⟩, -⟩ := parsePart_eq_some_iff.mp (parsePart_decimalText b)
  exact hmax

theorem dot_notMem_decimalText (b : Byte) : dot ∉ decimalText b := by
  obtain ⟨-, hdigits, -⟩ := parsePart_eq_some_iff.mp (parsePart_decimalText b)
  exact fun hmem => absurd (hdigits dot hmem) (by decide)

/-! The four parts. -/

/-- Splitting at the dots is the library's splitting. -/
theorem splitAtDots_eq_splitOn (t : List Byte) : splitAtDots t = t.splitOn dot := by
  induction t with
  | nil => rfl
  | cons b rest ih =>
    rw [splitAtDots, List.splitOn_cons_eq_if_modifyHead, ih]
    rcases hparts : rest.splitOn dot with _ | ⟨p, ps⟩
    · exact absurd hparts (List.splitOn_ne_nil dot rest)
    · simp

/-- Splitting and joining at the dots are inverse, where no part holds a dot. -/
theorem splitAtDots_eq_iff {t : List Byte} {parts : List (List Byte)} (hne : parts ≠ [])
    (hdots : ∀ p ∈ parts, dot ∉ p) : splitAtDots t = parts ↔ t = [dot].intercalate parts := by
  rw [splitAtDots_eq_splitOn]
  constructor
  · rintro rfl
    exact (List.intercalate_splitOn dot).symm
  · rintro rfl
    exact List.splitOn_intercalate dot hdots hne

/-- The decimal texts of an address's components, the first component first. -/
def componentTexts (a : Ipv4Addr) : List (List Byte) := [a.b0, a.b1, a.b2, a.b3].map decimalText

theorem dottedQuad_eq_intercalate (a : Ipv4Addr) : dottedQuad a = [dot].intercalate (componentTexts a) := by
  simp [dottedQuad, componentTexts, List.intercalate]

theorem dot_notMem_componentTexts (a : Ipv4Addr) : ∀ p ∈ componentTexts a, dot ∉ p := by
  intro p hp
  obtain ⟨b, -, rfl⟩ := List.mem_map.mp hp
  exact dot_notMem_decimalText b

/-- ParseIPv4 succeeds exactly on four parts that are the components' texts. -/
theorem parseIpv4_eq_some_iff {t : List Byte} {a : Ipv4Addr} :
    parseIpv4 t = some a ↔ splitAtDots t = componentTexts a := by
  obtain ⟨b0, b1, b2, b3⟩ := a
  simp only [componentTexts, List.map_cons, List.map_nil]
  unfold parseIpv4
  split
  next p0 p1 p2 p3 hsplit =>
    simp only [hsplit, List.cons.injEq, and_true, ← parsePart_eq_some_iff_decimalText]
    split
    next h0 h1 h2 h3 => simp [h0, h1, h2, h3]
    next hbad => exact iff_of_false nofun fun ⟨h0, h1, h2, h3⟩ => hbad _ _ _ _ h0 h1 h2 h3
  next hcount => exact iff_of_false nofun fun hsplit => hcount _ _ _ _ hsplit

/-- Settles O7: the parts are the components' texts, and so the text is those texts joined by dots. -/
theorem parseIpv4AcceptsExactlyDottedQuads : Obligations.ParseIpv4AcceptsExactlyDottedQuads := by
  intro t a
  rw [parseIpv4_eq_some_iff, dottedQuad_eq_intercalate]
  exact splitAtDots_eq_iff (List.cons_ne_nil _ _) (dot_notMem_componentTexts a)

theorem dottedQuad_length_le (a : Ipv4Addr) : (dottedQuad a).length ≤ 15 := by
  have h0 := decimalText_length_le a.b0
  have h1 := decimalText_length_le a.b1
  have h2 := decimalText_length_le a.b2
  have h3 := decimalText_length_le a.b3
  simp only [dottedQuad, List.length_append, List.length_cons]
  omega

theorem toNat_dottedQuad_length (a : Ipv4Addr) :
    (BitVec.ofNat 8 (dottedQuad a).length).toNat = (dottedQuad a).length := by
  have := dottedQuad_length_le a
  rw [BitVec.toNat_ofNat, Nat.mod_eq_of_lt (by omega)]

/-- The bytes after a dotted quad are not read (R71). -/
theorem parseIpv4_dottedQuad_padded (a : Ipv4Addr) (pad : List Byte) :
    parseIpv4 (addressText (BitVec.ofNat 8 (dottedQuad a).length) (dottedQuad a ++ pad)) = some a := by
  rw [addressText, toNat_dottedQuad_length, List.take_left]
  exact (parseIpv4AcceptsExactlyDottedQuads _ a).mpr rfl

/-- Settles O8: both texts fit their fields and parse. -/
theorem buildIpSOnDottedQuadsIsBuildIpA : Obligations.BuildIpSOnDottedQuadsIsBuildIpA := by
  intro a b pad pad' s
  have ha := dottedQuad_length_le a
  have hb := dottedQuad_length_le b
  exact ⟨ha, hb, exec_buildIpS_of_parsed ((toNat_dottedQuad_length a).trans_le ha) ((toNat_dottedQuad_length b).trans_le hb)
    (parseIpv4_dottedQuad_padded a pad) (parseIpv4_dottedQuad_padded b pad') s⟩

end Sys2Proof.Machine
end

section
/-! PROOF. The NTP packet as a record (R140, R141, R145): the flag byte and its subfields, the record and its byte image, and
what PARSE_REQ answers (R144, R146, R147). -/

namespace Sys2Proof.Machine

/-! The flag byte (R141). -/

theorem toNat_flagLI (flags : Byte) : (flagLI flags).toNat = flags.toNat / 64 := by
  have := flags.isLt
  simp [flagLI, BitVec.extractLsb'_toNat, Nat.shiftRight_eq_div_pow]
  omega

theorem toNat_flagVN (flags : Byte) : (flagVN flags).toNat = flags.toNat / 8 % 8 := by
  simp [flagVN, BitVec.extractLsb'_toNat, Nat.shiftRight_eq_div_pow]

theorem toNat_flagMode (flags : Byte) : (flagMode flags).toNat = flags.toNat % 8 := by
  simp [flagMode, BitVec.extractLsb'_toNat]

theorem toNat_packFlags (li : BitVec 2) (vn mode : BitVec 3) :
    (packFlags li vn mode).toNat = li.toNat * 64 + vn.toNat * 8 + mode.toNat := by
  have hvn := vn.isLt
  have hmode := mode.isLt
  rw [packFlags, BitVec.toNat_append, BitVec.toNat_append, ← Nat.shiftLeft_add_eq_or_of_lt hmode,
    ← Nat.shiftLeft_add_eq_or_of_lt hvn, Nat.shiftLeft_eq, Nat.shiftLeft_eq]
  omega

/-- Settles O16: the subfields are the byte's digits at the weights 64, 8 and 1. -/
theorem flagByteSubfields : Obligations.FlagByteSubfields := by
  refine ⟨fun flags => BitVec.eq_of_toNat_eq ?_, by decide⟩
  rw [toNat_packFlags, toNat_flagLI, toNat_flagVN, toNat_flagMode]
  omega

/-! PARSE_REQ. -/

theorem parseReqResult_of_whole {rxLen : BitVec 16} (data : List Byte) (h : 48 ≤ rxLen.toNat) :
    parseReqResult rxLen data = respondOk data := by
  rcases parseReqResult_cases rxLen data with ⟨hshort, -⟩ | ⟨-, hok⟩
  · omega
  · exact hok

theorem parseReqResult_eq_malformedPacket_iff {rxLen : BitVec 16} {data : List Byte} :
    parseReqResult rxLen data = raise .malformedPacket ↔ rxLen.toNat < 48 := by
  rcases parseReqResult_cases rxLen data with ⟨hshort, hres⟩ | ⟨hwhole, hres⟩
  · exact iff_of_true hres hshort
  · exact iff_of_false (hres ▸ nofun) (by omega)

/-- Settles O13: the result is the image, and its length byte is 48. -/
theorem parseReqReturnsImage : Obligations.ParseReqReturnsImage :=
  fun rxLen data s hdata hrx => exec_of_respondOk (.parseReq rxLen data) s (parseReqResult_of_whole data hrx) hdata

/-- Settles O14: the response is MalformedPacket's exactly when that is the result. -/
theorem parseReqMalformedExactly : Obligations.ParseReqMalformedExactly :=
  fun rxLen data s => (exec_eq_error_iff (.parseReq rxLen data) s .malformedPacket).trans
    parseReqResult_eq_malformedPacket_iff

/-! The record and its image (R145). -/

theorem NtpPacket.bytes_length (p : NtpPacket) : p.bytes.length = 48 := rfl

/-- Each field is read back from the bytes it was written to. -/
theorem NtpPacket.ofBytes_bytes (p : NtpPacket) : NtpPacket.ofBytes p.bytes = p := by
  have hdelay : u (slice p.bytes 4 4) = p.rootDelay.toNat := u_be32 p.rootDelay
  have hdispersion : u (slice p.bytes 8 4) = p.rootDispersion.toNat := u_be32 p.rootDispersion
  have hrefId : u (slice p.bytes 12 4) = p.refId.toNat := u_be32 p.refId
  have hrefTs : u (slice p.bytes 16 8) = p.refTs.toNat := u_be64 p.refTs
  have horgTs : u (slice p.bytes 24 8) = p.orgTs.toNat := u_be64 p.orgTs
  have hrecTs : u (slice p.bytes 32 8) = p.recTs.toNat := u_be64 p.recTs
  have hxmtTs : u (slice p.bytes 40 8) = p.xmtTs.toNat := u_be64 p.xmtTs
  simp only [NtpPacket.ofBytes, hdelay, hdispersion, hrefId, hrefTs, horgTs, hrecTs, hxmtTs, BitVec.ofNat_toNat,
    BitVec.setWidth_eq]
  rfl

/-- The fields are written to the bytes they were read from, and those are all. -/
theorem NtpPacket.bytes_ofBytes {d : List Byte} (h : d.length = 48) : (NtpPacket.ofBytes d).bytes = d := by
  have hword {i : Nat} (hi : i + 4 ≤ 48) : be32 (BitVec.ofNat 32 (u (slice d i 4))) = slice d i 4 := be32_memRead (by omega)
  have hlong {i : Nat} (hi : i + 8 ≤ 48) : be64 (BitVec.ofNat 64 (u (slice d i 8))) = slice d i 8 := be64_memRead (by omega)
  simp (disch := decide) only [NtpPacket.bytes, NtpPacket.ofBytes, hword, hlong, List.append_assoc, List.cons_append,
    List.nil_append]
  rw [slice_eq_drop (i := 40) h, slice_append_drop d 32 8, slice_append_drop d 24 8, slice_append_drop d 16 8,
    slice_append_drop d 12 4, slice_append_drop d 8 4, slice_append_drop d 4 4, byteAt_cons_drop (by omega),
    byteAt_cons_drop (by omega), byteAt_cons_drop (by omega), byteAt_cons_drop (by omega), List.drop_zero]

/-- A 32-bit field is the number its bytes read as: no bit is cut off (R11). -/
theorem toNat_ofNat_u_slice_four {d : List Byte} {i : Nat} (h : i + 4 ≤ d.length) :
    (BitVec.ofNat 32 (u (slice d i 4))).toNat = u (slice d i 4) :=
  (u_be32 _).symm.trans (congrArg u (be32_memRead h))

/-- A 64-bit field is the number its bytes read as: no bit is cut off (R11). -/
theorem toNat_ofNat_u_slice_eight {d : List Byte} {i : Nat} (h : i + 8 ≤ d.length) :
    (BitVec.ofNat 64 (u (slice d i 8))).toNat = u (slice d i 8) :=
  (u_be64 _).symm.trans (congrArg u (be64_memRead h))

/-- Settles O15: record and image are inverse to each other, PARSE_REQ answers the image, and each field is the number its
bytes read as. -/
theorem ntpRecordDeterminesImage : Obligations.NtpRecordDeterminesImage := by
  refine ⟨fun p => ⟨p.bytes_length, p.ofBytes_bytes⟩, fun d hd => NtpPacket.bytes_ofBytes hd,
    fun p rxLen s hrx => parseReqReturnsImage rxLen p.bytes s p.bytes_length hrx, fun d hd => ?_⟩
  exact ⟨rfl, toNat_flagLI _, toNat_flagVN _, toNat_flagMode _, rfl, rfl, rfl,
    toNat_ofNat_u_slice_four (by omega), toNat_ofNat_u_slice_four (by omega), be32_memRead (by omega),
    toNat_ofNat_u_slice_eight (by omega), toNat_ofNat_u_slice_eight (by omega),
    toNat_ofNat_u_slice_eight (by omega), toNat_ofNat_u_slice_eight (by omega)⟩

end Sys2Proof.Machine
end

section
/-! PROOF. The timestamp encoder (R153 to R159): `RoundHalfEven` is the nearest integer, and so the seconds and the fraction
together are the time since the NTP epoch rounded once. -/

namespace Sys2Proof.Machine

/-! The nearest integer (R154). -/

/-- `f` is an integer nearest to `num / den`, and the even one at a tie (R154). `roundHalfEven_eq_iff` ties it to the model's
`roundHalfEven`; the number may be negative, as a time before the NTP epoch is. -/
def NearestEven (num : Int) (den : Nat) (f : Int) : Prop :=
  2 * |f * den - num| ≤ den ∧ (2 * |f * den - num| = den → f % 2 = 0)

/-- The two sides of the distance apart. -/
theorem nearestEven_iff {num : Int} {den : Nat} {f : Int} :
    NearestEven num den f ↔
      2 * (f * den - num) ≤ den ∧ -(den : Int) ≤ 2 * (f * den - num) ∧
      (2 * (f * den - num) = den → f % 2 = 0) ∧ (2 * (f * den - num) = -(den : Int) → f % 2 = 0) := by
  unfold NearestEven
  rcases abs_cases (f * den - num) with ⟨habs, hsign⟩ | ⟨habs, hsign⟩ <;> rw [habs] <;> omega

theorem nearestEven_roundHalfEven (num : Nat) {den : Nat} (hden : 0 < den) : NearestEven num den (roundHalfEven num den) := by
  have hrest : num % den < den := Nat.mod_lt num hden
  have hnum : (num : Int) = (num / den : Nat) * den + (num % den : Nat) := by exact_mod_cast (Nat.div_add_mod' num den).symm
  rw [nearestEven_iff]
  unfold roundHalfEven
  dsimp only
  split
  next hbelowHalf => omega
  split
  next haboveHalf =>
    rw [Nat.cast_succ, add_mul]
    omega
  split
  next htieEven => omega
  next htieOdd =>
    rw [Nat.cast_succ, add_mul]
    omega

/-- Rounding keeps the order: a larger number below a smaller one would make both ties of neighbours, and two neighbours are
not both even. -/
theorem NearestEven.mono {num₁ num₂ : Int} {den : Nat} {f₁ f₂ : Int} (hden : 0 < den) (h₁ : NearestEven num₁ den f₁)
    (h₂ : NearestEven num₂ den f₂) (hnum : num₁ ≤ num₂) : f₁ ≤ f₂ := by
  by_contra hlt
  obtain ⟨k, rfl⟩ : ∃ k : Nat, f₁ = f₂ + 1 + k := ⟨(f₁ - f₂ - 1).toNat, by omega⟩
  rw [nearestEven_iff] at h₁ h₂
  have hk : 0 ≤ (k : Int) * den := by positivity
  simp only [add_mul, one_mul] at h₁
  have hneighbour : (k : Int) * den = 0 := by omega
  have : k = 0 := by simpa [hden.ne'] using hneighbour
  omega

theorem NearestEven.unique {num : Int} {den : Nat} {f g : Int} (hden : 0 < den) (hf : NearestEven num den f)
    (hg : NearestEven num den g) : f = g :=
  le_antisymm (hf.mono hden hg le_rfl) (hg.mono hden hf le_rfl)

/-- An even number of wholes can be taken out before rounding. -/
theorem NearestEven.add_mul_den {num : Int} {den : Nat} {f : Int} (h : NearestEven num den f) {k : Int} (hk : k % 2 = 0) :
    NearestEven (num + k * den) den (f + k) := by
  rw [nearestEven_iff] at h ⊢
  rw [add_mul]
  omega

theorem roundHalfEven_eq_iff {num den f : Nat} (hden : 0 < den) : roundHalfEven num den = f ↔ NearestEven num den f :=
  ⟨fun h => h ▸ nearestEven_roundHalfEven num hden,
    fun h => by exact_mod_cast (nearestEven_roundHalfEven num hden).unique hden h⟩

theorem roundHalfEven_mono {num₁ num₂ den : Nat} (hden : 0 < den) (h : num₁ ≤ num₂) :
    roundHalfEven num₁ den ≤ roundHalfEven num₂ den := by
  exact_mod_cast (nearestEven_roundHalfEven num₁ hden).mono hden (nearestEven_roundHalfEven num₂ hden) (by exact_mod_cast h)

/-- Settles O21: rounding gives a nearest integer, and there is only one. -/
theorem roundHalfEvenIsNearest : Obligations.RoundHalfEvenIsNearest := by
  intro num den f hden
  rw [roundHalfEven_eq_iff hden, NearestEven]
  norm_cast

/-! The seconds and the fraction of a time (R153, R156). -/

theorem subSecondTicks_lt {hz : Nat} (hhz : 0 < hz) (now : Int) : subSecondTicks hz now < hz := by
  have := Int.emod_lt_of_pos now (Int.natCast_pos.mpr hhz)
  rw [subSecondTicks]
  omega

/-- The time is its whole seconds and the ticks since (R153). -/
theorem unixSeconds_mul_add_subSecondTicks {hz : Nat} (hhz : 0 < hz) (now : Int) :
    unixSeconds hz now * hz + subSecondTicks hz now = now := by
  have hnonneg : 0 ≤ now % (hz : Int) := Int.emod_nonneg now (by omega)
  rw [unixSeconds, subSecondTicks, Int.toNat_of_nonneg hnonneg, Int.ediv_mul_add_emod]

/-- A part of a second rounds to at most the whole second (R156). -/
theorem roundHalfEven_fracScale_mul_le {hz r : Nat} (hhz : 0 < hz) (hr : r ≤ hz) :
    roundHalfEven (fracScale * r) hz ≤ fracScale := by
  calc roundHalfEven (fracScale * r) hz
    _ ≤ roundHalfEven (fracScale * hz) hz := roundHalfEven_mono hhz (Nat.mul_le_mul_left fracScale hr)
    _ = fracScale := by simp [roundHalfEven, hhz]

theorem roundedFraction_le {hz : Nat} (hhz : 0 < hz) (now : Int) : roundedFraction hz now ≤ fracScale :=
  roundHalfEven_fracScale_mul_le hhz (subSecondTicks_lt hhz now).le

/-- The carry leaves a fraction of less than a second (R156). -/
theorem ntpFraction_lt {hz : Nat} (hhz : 0 < hz) (now : Int) : ntpFraction hz now < fracScale := by
  have hle := roundedFraction_le hhz now
  unfold ntpFraction
  split
  · decide
  · omega

/-- The seconds and the fraction after the carry as one number, in units of 2^-32 s (R143, R153). -/
def ntpUnits (hz : Nat) (now : Int) : Int := fracScale * ntpSeconds hz now + ntpFraction hz now

/-- The carry moves 2^32 units into the seconds and changes nothing else (R156). -/
theorem ntpUnits_eq (hz : Nat) (now : Int) :
    ntpUnits hz now = roundedFraction hz now + fracScale * (unixSeconds hz now + ntpDelta) := by
  unfold ntpUnits ntpSeconds ntpFraction
  split
  next hcarry => rw [hcarry]; ring
  · ring

/-- R153 to R156 in one rounding: whole seconds are even numbers of units, so rounding the fraction alone rounds the time. -/
theorem nearestEven_ntpUnits {hz : Nat} (hhz : 0 < hz) (now : Int) :
    NearestEven (fracScale * (now + ntpDelta * hz)) hz (ntpUnits hz now) := by
  have hfraction : NearestEven (fracScale * subSecondTicks hz now : Nat) hz (roundedFraction hz now) :=
    nearestEven_roundHalfEven _ hhz
  have htime : fracScale * (now + ntpDelta * hz) =
      (fracScale * subSecondTicks hz now : Nat) + fracScale * (unixSeconds hz now + ntpDelta) * hz := by
    conv_lhs => rw [← unixSeconds_mul_add_subSecondTicks hhz now]
    push_cast
    ring
  rw [ntpUnits_eq, htime]
  exact hfraction.add_mul_den (by rw [fracScale]; omega)

/-- The seconds are the whole seconds of the units, since the fraction is less than one. -/
theorem ntpSeconds_eq_ntpUnits_div {hz : Nat} (hhz : 0 < hz) (now : Int) :
    ntpSeconds hz now = ntpUnits hz now / fracScale := by
  have hfrac : ntpFraction hz now < 4294967296 := ntpFraction_lt hhz now
  rw [ntpUnits, fracScale]
  omega

/-- Rounding keeps the order of the times, and so does the floor (R159). -/
theorem ntpSeconds_mono {hz : Nat} (hhz : 0 < hz) {now₁ now₂ : Int} (h : now₁ ≤ now₂) :
    ntpSeconds hz now₁ ≤ ntpSeconds hz now₂ := by
  have hunits : ntpUnits hz now₁ ≤ ntpUnits hz now₂ :=
    (nearestEven_ntpUnits hhz now₁).mono hhz (nearestEven_ntpUnits hhz now₂) (by rw [fracScale]; omega)
  rw [ntpSeconds_eq_ntpUnits_div hhz, ntpSeconds_eq_ntpUnits_div hhz]
  exact Int.ediv_le_ediv (by decide) hunits

/-! TsEnc (R153, R157). -/

/-- TsEnc gives the pair whose numbers are the seconds and the fraction: neither is cut off (R157). -/
theorem tsEnc_eq_ok_iff {hz : Nat} (hhz : 0 < hz) {now : Int} {ts : Timestamp} :
    tsEnc hz now = .ok ts ↔ (ts.secs.toNat : Int) = ntpSeconds hz now ∧ ts.frac.toNat = ntpFraction hz now := by
  have hfrac : ntpFraction hz now < 4294967296 := ntpFraction_lt hhz now
  have hsecs := ts.secs.isLt
  rcases tsEnc_cases hz now with ⟨hout, herr⟩ | ⟨hlo, hhi, hok⟩
  · exact iff_of_false (herr ▸ nofun) (by omega)
  · obtain ⟨secs, frac⟩ := ts
    rw [hok, Except.ok.injEq, Timestamp.mk.injEq, BitVec.toNat_eq, BitVec.toNat_eq, BitVec.toNat_ofNat, BitVec.toNat_ofNat]
    dsimp only at hsecs ⊢
    omega

/-- Settles O20: seconds and fraction are those of the units, and the units are the one nearest integer. -/
theorem tsEncIsTimeRoundedHalfEven : Obligations.TsEncIsTimeRoundedHalfEven := by
  intro hz now ts hhz
  have hfrac : ntpFraction hz now < 4294967296 := ntpFraction_lt hhz now
  have hsame : tsEnc hz now = .ok ts ↔ 4294967296 * (ts.secs.toNat : Int) + ts.frac.toNat = ntpUnits hz now := by
    rw [tsEnc_eq_ok_iff hhz, ntpUnits, fracScale]
    omega
  have hnearest : ∀ n : Int, n = ntpUnits hz now ↔ NearestEven (4294967296 * (now + 2208988800 * hz)) hz n :=
    fun n => ⟨fun h => h ▸ nearestEven_ntpUnits hhz now, fun h => h.unique hhz (nearestEven_ntpUnits hhz now)⟩
  have heven : (4294967296 * (ts.secs.toNat : Int) + ts.frac.toNat) % 2 = 0 ↔ ts.frac.toNat % 2 = 0 := by omega
  rw [hsame, hnearest, NearestEven, heven]

/-- Settles O22: the carry's branch of both definitions. -/
theorem tsEncCarriesIntoSeconds : Obligations.TsEncCarriesIntoSeconds := by
  intro hz now ts hhz hcarry hok
  replace hcarry : roundedFraction hz now = fracScale := hcarry
  obtain ⟨hsecs, hfrac⟩ := (tsEnc_eq_ok_iff hhz).mp hok
  rw [ntpSeconds, if_pos hcarry] at hsecs
  rw [ntpFraction, if_pos hcarry] at hfrac
  exact ⟨BitVec.eq_of_toNat_eq hfrac, hsecs⟩

/-- Settles O23: the seconds of the two times are in order. -/
theorem tsEncSecondsMonotone : Obligations.TsEncSecondsMonotone := by
  intro hz now₁ now₂ ts₁ ts₂ hhz hlt hok₁ hok₂
  obtain ⟨hsecs₁, -⟩ := (tsEnc_eq_ok_iff hhz).mp hok₁
  obtain ⟨hsecs₂, -⟩ := (tsEnc_eq_ok_iff hhz).mp hok₂
  have := ntpSeconds_mono hhz hlt.le
  omega

/-! When a carry occurs (R156, R158). -/

/-- A fraction rounds to the whole exactly when it lies within half a unit of it: at the tie the whole, 2^32, is even (R156). -/
theorem roundHalfEven_eq_fracScale_iff {hz r : Nat} (hr : r < hz) :
    roundHalfEven (fracScale * r) hz = fracScale ↔ 8589934592 * (hz - r) ≤ hz := by
  rw [roundHalfEven_eq_iff (by omega), nearestEven_iff, fracScale]
  omega

/-- Settles O25: the last tick of the second is the nearest to the next, one tick away. -/
theorem carryOccursExactlyFromTwoPow33 : Obligations.CarryOccursExactlyFromTwoPow33 := by
  intro hz hhz
  constructor
  · rintro ⟨r, hr, hcarry⟩
    have := (roundHalfEven_eq_fracScale_iff hr).mp hcarry
    omega
  · intro hfast
    exact ⟨hz - 1, by omega, (roundHalfEven_eq_fracScale_iff (by omega)).mpr (by omega)⟩

/-- Below 2^33 ticks a second the seconds are the whole seconds since the NTP epoch: nothing is carried (R158; log 14). -/
theorem ntpSeconds_of_slow {hz : Nat} (hlo : 1000000 ≤ hz) (hhi : hz < 8589934592) (now : Int) :
    ntpSeconds hz now = now / hz + 2208988800 := by
  have hnocarry : roundedFraction hz now ≠ fracScale := fun hcarry =>
    absurd ((carryOccursExactlyFromTwoPow33 hz hlo).mp ⟨_, subSecondTicks_lt (by omega) now, hcarry⟩) (by omega)
  rw [ntpSeconds, if_neg hnocarry]
  rfl

/-- Settles O24: a tie would make an odd multiple of 32 a multiple of 64, and the largest fraction is the last tick's. -/
theorem noTieAndNoCarryAtMicroseconds : Obligations.NoTieAndNoCarryAtMicroseconds := by
  have hlast : roundHalfEven (4294967296 * 999999) 1000000 = 4294963001 := by decide
  refine ⟨fun r hr => ⟨by omega, ?_⟩, hlast⟩
  calc roundHalfEven (4294967296 * r) 1000000
    _ ≤ roundHalfEven (4294967296 * 999999) 1000000 := roundHalfEven_mono (by decide) (by omega)
    _ = 4294963001 := hlast

end Sys2Proof.Machine
end

section
/-! PROOF. BUILD_RESP (R157, R160, R161, R163): the response of a time that encodes, and which times do. -/

namespace Sys2Proof.Machine

/-- Settles O17: the response is the concatenation of its fields. -/
theorem buildRespWritesResponse : Obligations.BuildRespWritesResponse := by
  intro req now ts s hreq hts
  rw [exec_of_respondOk (.buildResp req now) s (buildRespResult_of_ok s.config req now ts hts)
    (ntpResponse_length s.config req ts hreq), ntpResponse_eq s.config req ts hreq, ← List.append_assoc]
  rfl

/-- Settles O29: both frames decode, to commands with one result. -/
theorem responseDependsOnlyOnTransmitTimestamp : Obligations.ResponseDependsOnlyOnTransmitTimestamp := by
  intro req req' now s hreq hreq' hsame
  have hresult : buildRespResult s.config req now = buildRespResult s.config req' now :=
    buildRespResult_congr s.config now (congrArg (List.take 8) hsame)
  calc perform (encode (.buildResp req now)) s
    _ = deliver (buildRespResult s.config req now) s := perform_of_decode_ok (decode_encode_buildResp now hreq) s
    _ = deliver (buildRespResult s.config req' now) s := by rw [hresult]
    _ = perform (encode (.buildResp req' now)) s := (perform_of_decode_ok (decode_encode_buildResp now hreq') s).symm

/-- At 10^6 ticks a second the seconds stay in era 0 for exactly the admitted times (R157). -/
theorem ntpSeconds_in_era_iff_of_microseconds (now : Int) :
    (0 ≤ ntpSeconds 1000000 now ∧ ntpSeconds 1000000 now ≤ 0xFFFFFFFF) ↔
      (-2208988800000000 ≤ now ∧ now ≤ 2085978495999999) := by
  rw [ntpSeconds_of_slow le_rfl (by decide)]
  omega

/-- Settles O19: the times whose seconds are in era 0 encode, and the others are the clock's error. -/
theorem buildRespAdmittedTimesAtMicroseconds : Obligations.BuildRespAdmittedTimesAtMicroseconds := by
  intro req now s hreq hhz
  rw [← ntpSeconds_in_era_iff_of_microseconds]
  rcases tsEnc_cases 1000000 now.toInt with ⟨hout, herr⟩ | ⟨hlo, hhi, hok⟩
  · refine ⟨fun _ => by omega, fun _ => (exec_eq_error_iff (.buildResp req now) s .clockOutOfRange).mpr ?_⟩
    simp [instrResult, buildRespResult, nowTicks, hhz, herr]
  · refine ⟨fun _ => ⟨_, ntpResponse_length s.config req _ hreq, exec_of_respondOk (.buildResp req now) s
      (buildRespResult_of_ok s.config req now _ (hhz ▸ hok)) (ntpResponse_length s.config req _ hreq)⟩, fun _ => by omega⟩

end Sys2Proof.Machine
end

section
/-! PROOF. Errors (R200 to R208): which command raises which error, when BUILD_UDP and BUILD_RESP raise theirs, and which
frames are illegal (R206). -/

namespace Sys2Proof.Machine

/-! Which command raises which error. -/

/-- R200's table of errors: what each command may raise. `raises_of_instrResult` ties it to the model. -/
inductive Raises : Opcode → ErrorKind → Prop
  | invalidAddress : Raises .buildIpS .invalidAddress
  | invalidPort : Raises .buildUdp .invalidPort
  | malformedPacket : Raises .parseReq .malformedPacket
  | lengthOutOfRange : Raises .buildUdp .lengthOutOfRange
  | clockOutOfRange : Raises .buildResp .clockOutOfRange

theorem not_raises_illegalCommand (op : Opcode) : ¬ Raises op .illegalCommand := nofun

/-- A command that ends in an error raised one of its own. -/
theorem raises_of_instrResult {cfg : Config} {i : Instr} {e : ErrorKind} (h : instrResult cfg i = raise e) :
    Raises i.opcode e := by
  cases i with
  | buildIpA a b => cases h
  | buildIpS sl st dl dt =>
    rcases buildIpSResult_cases cfg sl st dl dt with ⟨a, b, -, -, -, -, hok⟩ | ⟨-, herr⟩
    · cases hok.symm.trans h
    · cases herr.symm.trans h
      exact .invalidAddress
  | buildUdp sp dp len =>
    rcases buildUdpResult_cases sp dp len with ⟨-, herr⟩ | ⟨-, -, -, -, herr⟩ | ⟨-, -, -, -, hok⟩
    · cases herr.symm.trans h
      exact .invalidPort
    · cases herr.symm.trans h
      exact .lengthOutOfRange
    · cases hok.symm.trans h
  | parseReq rx d =>
    rcases parseReqResult_cases rx d with ⟨-, herr⟩ | ⟨-, hok⟩
    · cases herr.symm.trans h
      exact .malformedPacket
    · cases hok.symm.trans h
  | buildResp req now =>
    rcases buildRespResult_cases cfg req now with ⟨-, herr⟩ | ⟨ts, -, hok⟩
    · cases herr.symm.trans h
      exact .clockOutOfRange
    · cases hok.symm.trans h

/-- No command raises IllegalCommand: only a frame that is none does (R206). -/
theorem instrResult_ne_illegalCommand (cfg : Config) (i : Instr) : instrResult cfg i ≠ raise .illegalCommand :=
  fun h => not_raises_illegalCommand i.opcode (raises_of_instrResult h)

/-- Settles O51: a success has status 0, and an error has the code of one its command raises. -/
theorem errorsComeOnlyFromTheirCommand : Obligations.ErrorsComeOnlyFromTheirCommand := by
  intro i s s' status rest hexec hphase
  obtain rfl := (deliver_eq_next _ s s').mp (exec_eq_deliver i s ▸ hexec)
  have hframe : responseFrame (instrResult s.config i) = status :: rest := Phase.done.inj hphase
  rcases hres : instrResult s.config i with e | q
  · obtain rfl : e.code = status := (List.cons.inj (hres ▸ hframe)).1
    have hraises : Raises i.opcode e := raises_of_instrResult hres
    generalize i.opcode = op at hraises ⊢
    cases hraises <;> decide
  · exact .inl (List.cons.inj (hres ▸ hframe)).1.symm

/-! The length and the clock. -/

theorem buildUdpResult_eq_lengthOutOfRange_iff {sp dp len : BitVec 32} :
    buildUdpResult sp dp len = raise .lengthOutOfRange ↔
      (len.toNat > 65527 ∧ sp.toNat ≤ 65535 ∧ dp.toNat ≤ 65535 ∧ dp.toNat ≠ 0) := by
  rcases buildUdpResult_cases sp dp len with
    ⟨hbad, hres⟩ | ⟨hsp, hdp, hdp0, hlong, hres⟩ | ⟨-, -, -, hfits, hres⟩
  · exact iff_of_false (hres ▸ nofun) (by omega)
  · exact iff_of_true hres ⟨hlong, hsp, hdp, hdp0⟩
  · exact iff_of_false (hres ▸ nofun) (by omega)

/-- Settles O11: the response is LengthOutOfRange's exactly when that is the result. -/
theorem buildUdpLengthOutOfRangeExactly : Obligations.BuildUdpLengthOutOfRangeExactly :=
  fun sp dp len s => (exec_eq_error_iff (.buildUdp sp dp len) s .lengthOutOfRange).trans
    buildUdpResult_eq_lengthOutOfRange_iff

theorem tsEnc_eq_clockOutOfRange_iff {hz : Nat} {now : Int} :
    tsEnc hz now = .error .clockOutOfRange ↔ (ntpSeconds hz now < 0 ∨ ntpSeconds hz now > 0xFFFFFFFF) := by
  rcases tsEnc_cases hz now with ⟨hout, herr⟩ | ⟨hlo, hhi, hok⟩
  · exact iff_of_true herr hout
  · exact iff_of_false (hok ▸ nofun) (by omega)

theorem buildRespResult_eq_clockOutOfRange_iff {cfg : Config} {req : List Byte} {now : BitVec 64} :
    buildRespResult cfg req now = raise .clockOutOfRange ↔
      tsEnc cfg.tickHz.hz (nowTicks now) = .error .clockOutOfRange := by
  rcases buildRespResult_cases cfg req now with ⟨herr, hres⟩ | ⟨ts, hok, hres⟩
  · exact iff_of_true hres herr
  · exact iff_of_false (hres ▸ nofun) (hok ▸ nofun)

/-- Settles O18: the clock's error is the encoder's, which looks at the carried seconds. -/
theorem buildRespClockOutOfRangeExactly : Obligations.BuildRespClockOutOfRangeExactly :=
  fun req now s => (exec_eq_error_iff (.buildResp req now) s .clockOutOfRange).trans
    (buildRespResult_eq_clockOutOfRange_iff.trans tsEnc_eq_clockOutOfRange_iff)

/-! Illegal frames (R206). -/

theorem perform_eq_error_iff (c : Frame) (s : State) (e : ErrorKind) :
    perform c s = .next (s.answered [e.code, 0x00]) ↔ frameResult s.config c = raise e := by
  rw [perform_eq_deliver, deliver_eq_next, eq_comm, ← responseFrame_eq_error_iff]
  simp

theorem frameResult_eq_illegalCommand_iff (cfg : Config) (c : Frame) :
    frameResult cfg c = raise .illegalCommand ↔ ∀ i, decode c ≠ .ok i := by
  rcases hdecode : decode c with e | i
  · exact iff_of_true (by simp [frameResult, hdecode]) nofun
  · refine iff_of_false ?_ (fun h => h i rfl)
    simpa [frameResult, hdecode] using instrResult_ne_illegalCommand cfg i

/-- A frame is a command exactly when it begins with an opcode and has that opcode's length (R70). -/
theorem exists_decode_eq_ok_iff (c : Frame) :
    (∃ i, decode c = .ok i) ↔ ∃ op : Opcode, c.head? = some op.byte ∧ c.length = op.frameLength := by
  constructor
  · rintro ⟨i, hi⟩
    obtain ⟨op, rest, rfl, hlen, -⟩ := decode_eq_ok hi
    exact ⟨op, rfl, hlen⟩
  · rintro ⟨op, hhead, hlen⟩
    obtain ⟨rest, rfl⟩ := List.head?_eq_some_iff.mp hhead
    exact ⟨_, decode_of_shape op rest hlen⟩

/-- The opcodes and frame lengths that R206 lists are R60's. -/
theorem mem_opcodeLengths_iff (b : Byte) (len : Nat) :
    (b, len) ∈ [((0x10 : Byte), 9), (0x11, 33), (0x12, 13), (0x20, 51), (0x21, 57)] ↔
      ∃ op : Opcode, op.byte = b ∧ op.frameLength = len := by
  constructor
  · intro h
    simp only [List.mem_cons, List.not_mem_nil, or_false, Prod.mk.injEq] at h
    rcases h with ⟨rfl, rfl⟩ | ⟨rfl, rfl⟩ | ⟨rfl, rfl⟩ | ⟨rfl, rfl⟩ | ⟨rfl, rfl⟩
    · exact ⟨.buildIpA, rfl, rfl⟩
    · exact ⟨.buildIpS, rfl, rfl⟩
    · exact ⟨.buildUdp, rfl, rfl⟩
    · exact ⟨.parseReq, rfl, rfl⟩
    · exact ⟨.buildResp, rfl, rfl⟩
  · rintro ⟨op, rfl, rfl⟩
    cases op <;> decide

/-- Settles O32: IllegalCommand answers the frames that do not decode, and those have no opcode's byte and length. The empty
frame is one of them, since it has no first byte. -/
theorem illegalCommandExactly : Obligations.IllegalCommandExactly := by
  intro c s
  refine (perform_eq_error_iff c s .illegalCommand).trans ?_
  rw [frameResult_eq_illegalCommand_iff, ← not_exists, exists_decode_eq_ok_iff]
  simp only [mem_opcodeLengths_iff]
  constructor
  · refine fun hillegal => .inr ?_
    rintro _ _ ⟨op, rfl, rfl⟩ hhead hlen
    exact hillegal ⟨op, hhead, hlen⟩
  · rintro (rfl | hnone) ⟨op, hhead, hlen⟩
    · cases hhead
    · exact hnone op.byte op.frameLength ⟨op, rfl, rfl⟩ hhead hlen

end Sys2Proof.Machine
end

section
/-! PROOF. The Codec never halts (R210), and waits between commands (R217). -/

namespace Sys2Proof.Machine

/-- No turn stops the machine: Perform delivers a response whatever the frame is, and the other turns only move the port. -/
theorem exists_takeTurn_eq_next (t : Turn) (s : State) : ∃ s', takeTurn t s = .next s' := by
  cases t with
  | issue | collect | reset => exact ⟨_, rfl⟩
  | perform =>
    rcases performTurn_cases s with ⟨c, -, heq⟩ | ⟨-, heq⟩
    · exact ⟨_, heq⟩
    · exact ⟨s, heq⟩

/-- Settles O38: a step is one turn. -/
theorem stepAlwaysAnswersNext : Obligations.StepAlwaysAnswersNext := by
  intro s
  rw [step_eq_takeTurn]
  exact exists_takeTurn_eq_next _ _

theorem runFinished_iff (s : State) :
    s.runFinished = true ↔ s.phase = .idle ∧ s.program = [] ∧ s.awaiting = false := by
  simp [State.runFinished, and_assoc]

theorem issueTurn_of_program_nil {s : State} (hprogram : s.program = []) : issueTurn s = s := by
  rcases issueTurn_cases s with ⟨-, h, rest, hcons, -⟩ | ⟨-, heq⟩
  · cases hprogram.symm.trans hcons
  · exact heq

/-- Settles O45: an idle port's turn is Issue, and nothing is left to issue. -/
theorem finishedRunWaits : Obligations.FinishedRunWaits := by
  intro s hfinished hschedule
  obtain ⟨hphase, hprogram, -⟩ := (runFinished_iff s).mp hfinished
  rw [step_of_schedule_nil hschedule, hphase, defaultTurn, takeTurn, issueTurn_of_program_nil hprogram]

end Sys2Proof.Machine
end

section
/-! PROOF. The reset (R230), and the fairness of Perform (R240). -/

namespace Sys2Proof.Machine

/-- The turn a reset takes, wherever the port is (R230). -/
theorem step_of_reset_turn {s : State} {turns : List Turn} (hschedule : s.schedule = .reset :: turns) :
    step s = .next (resetPort { s with schedule := turns }) :=
  step_of_schedule_cons hschedule

/-- The host still awaits a response that a reset dropped, so its run is not finished (R231, R239). -/
theorem runFinished_resetPort_of_awaiting {s : State} (h : s.awaiting = true) : (resetPort s).runFinished = false := by
  rw [← Bool.not_eq_true, runFinished_iff]
  rintro ⟨-, -, hcollected⟩
  exact Bool.false_ne_true (hcollected.symm.trans h)

/-- A port that holds a command goes on holding it, performs it, or is reset (R24, R230). -/
theorem PortMove.of_busy {t : Turn} {s s' : State} {c : Frame} (hmove : PortMove t s s') (hbusy : s.phase = .busy c) :
    s' = s ∨ s'.phase = .done (responseTo s.config c) ∨ (t = .reset ∧ s'.phase = .idle) := by
  cases hmove with
  | nothing => exact .inl rfl
  | perform hphase =>
    cases hbusy.symm.trans hphase
    exact .inr (.inl rfl)
  | reset => exact .inr (.inr ⟨rfl, rfl⟩)
  | skip hphase | issue hphase | collect hphase => cases hbusy.symm.trans hphase

theorem run_one {s s' : State} (h : step s = .next s') : core.run 1 s = .next s' :=
  (run_succ 0 s s' h).trans (run_zero s')

/-- Settles O2: the reset's turn is `resetPort`. -/
theorem resetTurnDropsPendingWork : Obligations.ResetTurnDropsPendingWork :=
  fun _ _ hschedule => step_of_reset_turn hschedule

/-- Settles O46: what the port held is awaited, and a reset does not clear the flag. -/
theorem resetOfPendingWorkIsNoFinishedRun : Obligations.ResetOfPendingWorkIsNoFinishedRun := by
  intro s s' turns hpending hphase hschedule hstep
  have hawaiting : s.awaiting = true := ((pendingIsAwaited_iff s).mp hpending).resolve_left hphase
  cases (step_of_reset_turn hschedule).symm.trans hstep
  exact ⟨rfl, runFinished_resetPort_of_awaiting hawaiting⟩

/-- Settles O44, by induction on the schedule: each turn it names ends the wait or leaves the command held with one
turn fewer to come, and when none is left the default turn performs the command. -/
theorem busyPortIsNeverHeldForever : Obligations.BusyPortIsNeverHeldForever := by
  intro s c hbusy
  induction hschedule : s.schedule generalizing s with
  | nil =>
    have hstep : step s = .next _ := (step_of_perform_turn hbusy (.inl hschedule)).trans (perform_eq_answered c _)
    exact ⟨1, _, Nat.le_refl 1, run_one hstep, .inl rfl⟩
  | cons t turns ih =>
    obtain ⟨s₁, hturn⟩ := exists_takeTurn_eq_next t { s with schedule := turns }
    have hstep : step s = .next s₁ := (step_of_schedule_cons hschedule).trans hturn
    rcases (portMove_of_takeTurn hturn).of_busy hbusy with rfl | hdone | ⟨rfl, hidle⟩
    · obtain ⟨k, s', hk, hrun, hend⟩ := ih { s with schedule := turns } hbusy rfl
      exact ⟨k + 1, s', Nat.succ_le_succ hk, (run_succ k s _ hstep).trans hrun,
        hend.imp_right (.imp_left (List.mem_cons_of_mem t))⟩
    · exact ⟨1, s₁, Nat.le_add_left 1 _, run_one hstep, .inl hdone⟩
    · exact ⟨1, s₁, Nat.le_add_left 1 _, run_one hstep, .inr ⟨List.mem_cons_self, hidle⟩⟩

end Sys2Proof.Machine
end
